-- ==== Sys2Proof/Word.lean ====
section
/-! DEFINITION. The words of the ST231 and the plainest arithmetic on them (00_scope.md rules R10 to R12). -/

namespace Sys2Proof

/-- A 32-bit register value, address or syllable (00 R7). -/
abbrev Word := BitVec 32

/-- A byte of memory (20 R100). -/
abbrev Byte := BitVec 8

/-- A general register designator (30 R205). -/
abbrev RegNum := BitVec 6

/-- A branch register designator (30 R205). -/
abbrev BrNum := BitVec 3

/-- R63, the link register (10 R24). -/
def linkReg : RegNum := 63#6

/-- `Register(i)` = `i mod 2^32` (00 R11). -/
def register (v : Int) : Word := BitVec.ofInt 32 v

/-- Drop bits 1:0 of an address (10 R21). -/
def alignDown (w : Word) : Word := w &&& 0xFFFFFFFC#32

end Sys2Proof
end

