-- ==== Sys2Proof/Config.lean ====
section
/-! DEFINITION. What an implementation of the ST231 fixes (the parameters of 00_scope.md rule R8, one record of
plain data that no step changes) and the values the manual leaves free (constants with no body). -/

namespace Sys2Proof

/-- Which of the two debug-support chapters applies (00 R3, R9; 92 D7). -/
inductive DebugVariant
  | tapLink
  | jtag
  deriving DecidableEq, Repr

/-- A range of physical addresses at which the bus answers with an error (92 D12; assumption 46). -/
structure BusRegion where
  base : Nat
  size : Nat
  /-- reads and instruction fetches fail -/
  reads : Bool
  /-- writes fail -/
  writes : Bool
  deriving DecidableEq, Repr

/-- The fixed properties of one SDI port (00 R8; 92 D9, D10, D11). -/
structure SdiPortParams where
  /-- INPUTNOTOUTPUT -/
  isInput : Bool
  /-- MASTERNOTSLAVE -/
  isMaster : Bool
  /-- `SDI_COUNT_RESET[i]` -/
  countReset : Word
  /-- `SDI_READY_MIN[i]`, the least non-zero value of SDIi_READY -/
  readyMin : Nat
  /-- how many words the channel holds (assumption 9) -/
  depth : Nat
  deriving DecidableEq, Repr

/-- The parameters of 00_scope.md rule R8. The default of each field is the model's choice (assumption 2). -/
structure Params where
  bigEndian : Bool := false
  peripheralPins : BitVec 12 := 0xFF0#12
  productId : BitVec 16 := 0#16
  dsuVersion : BitVec 8 := 0#8
  bootAddress : Word := 0#32
  intcrBase : Word := 0xFF000000#32
  dsuBase : Word := 0xFF002000#32
  debugVariant : DebugVariant := .tapLink
  debugEnableAtReset : Bool := false
  sdi : Vector SdiPortParams 4 :=
    #v[⟨true, true, 0#32, 1, 4⟩, ⟨true, true, 0#32, 1, 4⟩, ⟨false, true, 0#32, 1, 4⟩, ⟨false, true, 0#32, 1, 4⟩]
  /-- words 1, 2, ... of the debug ROM as far as they are known; word 0 is fixed (10 R85) -/
  debugRom : List Word := []
  /-- where the bus reports errors -/
  busErrors : List BusRegion := []
  deriving DecidableEq, Repr

namespace Params

/-- PERIPHERAL_BASE: the pins are its top 12 bits (10 R59; 92 D2). -/
def peripheralBase (p : Params) : Word := p.peripheralPins ++ 0#20

/-- DEBUG_ROM_BASE (10 R85). -/
def debugRomBase (p : Params) : Word := p.peripheralBase + 0x4000#32

/-- Two address ranges share no address. -/
def disjointRanges (a aSize b bSize : Nat) : Bool := decide (a + aSize ≤ b) || decide (b + bSize ≤ a)

/-- The constraints the spec puts on the parameters: a word-aligned boot address (70 R702), register blocks aligned
to 8, inside the 1 Mbyte block and pairwise disjoint (92 D6), exactly two input ports (10 R72). -/
def wf (p : Params) : Bool :=
  p.bootAddress.extractLsb' 0 2 == 0#2
  && p.intcrBase.extractLsb' 0 3 == 0#3 && p.dsuBase.extractLsb' 0 3 == 0#3
  && p.intcrBase.extractLsb' 20 12 == p.peripheralPins && p.dsuBase.extractLsb' 20 12 == p.peripheralPins
  && decide ((p.intcrBase.extractLsb' 0 20).toNat + 0x250 ≤ 0x100000)
  && decide ((p.dsuBase.extractLsb' 0 20).toNat + 0x100 ≤ 0x100000)
  && disjointRanges p.intcrBase.toNat 0x250 p.dsuBase.toNat 0x100
  && disjointRanges p.intcrBase.toNat 0x250 p.debugRomBase.toNat 0x400
  && disjointRanges p.dsuBase.toNat 0x100 p.debugRomBase.toNat 0x400
  && decide ((p.sdi.toList.filter (·.isInput)).length = 2)

end Params

/-! Free values. Each is read at the counter `oracle` of the state, so that a new use may give a new value
(00 R15: "can vary with each use"). Nothing constrains them. -/

/-- The word a load returns when its bus read fails (20 R176; assumption 13). -/
opaque Config.failedLoadWord : Nat → Word

/-- Whether a store whose bus write fails changed memory all the same (20 R176: "The write may or may not have
completed"; assumption 13). -/
opaque Config.failedStoreLands : Nat → Bool

/-- How many bundle boundaries pass before a D-side bus error is reported (20 R176; 92 D12; assumption 12). -/
opaque Config.busErrorDelay : Nat → Nat

/-- TLB_EXCAUSE.INDEX where the manual does not define it (20 R136; 93 U4, U5; assumption 15). -/
opaque Config.tlbFreeIndex : Nat → BitVec 8

/-- TLB_EXCAUSE.IN_UTLB of a MULTI_MAPPING exception (20 R136; 93 U4; assumption 15). -/
opaque Config.tlbFreeInUtlb : Nat → Bool

/-- Whether a bundle goes on after a syllable whose word, and so its stop bit, cannot be known, since its address has no
single translation or is not executable and fails on the bus (30 R201; 20 R137; assumption 32). -/
opaque Config.bundleGoesOn : Nat → Word → Bool

/-- How far a counter programmed with a microarchitectural event advances in one step (61 R684; assumption 17). -/
opaque Config.microEventCount : Nat → Fin 4 → Nat

/-- The core clock cycles a step takes beyond its first (61 R683; assumption 17). -/
opaque Config.extraCycles : Nat → Nat

/-- The count an SDI port reports in SDIi_READY, before it is limited to what rule R646 allows (assumption 18). -/
opaque Config.sdiReadyReport : Nat → Nat

/-- What a load of SDIi_DATA or SDIi_READY returns while the channel's reset bits are set (61 R650; 93 H14;
assumption 19). -/
opaque Config.sdiResetRead : Nat → Word

/-- Whether a store to SDIi_DATA is accepted while the channel's reset bits are set (93 H14; assumption 19). -/
opaque Config.sdiResetAccepts : Nat → Bool

/-- The words of the debug ROM that no source lists (61 R670; 91 N12; assumption 25). -/
opaque Config.debugRomWord : Nat → Word

end Sys2Proof
end

