-- ==== Sys2Proof/Syntax.lean ====
section
/-! DEFINITION. The operations of the ST231: one constructor per row of spec/opcode_table.json (30_encoding.md rules
R211 to R215). Operand names: `d` a destination general register, `b` a destination branch register, `c` a source
branch register (select condition, carry in, branch condition), `s1` and `s2` source general registers, `i` a 9-bit
short immediate, `v` a 23-bit extension, `t` a 23-bit branch offset in words, `n` a 21-bit number (30 R205). -/

namespace Sys2Proof

/-- One operation or immediate extension, its fields as the encoding holds them. -/
inductive Instr
  -- Integer operations (40_integer.md)
  /-- add, register form (R251). -/
  | addR (d : RegNum) (s1 : RegNum) (s2 : RegNum)
  /-- add, immediate form (R251). -/
  | addI (d : RegNum) (s1 : RegNum) (i : BitVec 9)
  /-- sub, register form (R252). -/
  | subR (d : RegNum) (s1 : RegNum) (s2 : RegNum)
  /-- sub, immediate form (R252). -/
  | subI (d : RegNum) (s1 : RegNum) (i : BitVec 9)
  /-- shl, register form (R253). -/
  | shlR (d : RegNum) (s1 : RegNum) (s2 : RegNum)
  /-- shl, immediate form (R253). -/
  | shlI (d : RegNum) (s1 : RegNum) (i : BitVec 9)
  /-- shr, register form (R254). -/
  | shrR (d : RegNum) (s1 : RegNum) (s2 : RegNum)
  /-- shr, immediate form (R254). -/
  | shrI (d : RegNum) (s1 : RegNum) (i : BitVec 9)
  /-- shru, register form (R255). -/
  | shruR (d : RegNum) (s1 : RegNum) (s2 : RegNum)
  /-- shru, immediate form (R255). -/
  | shruI (d : RegNum) (s1 : RegNum) (i : BitVec 9)
  /-- sh1add, register form (R256). -/
  | sh1addR (d : RegNum) (s1 : RegNum) (s2 : RegNum)
  /-- sh1add, immediate form (R256). -/
  | sh1addI (d : RegNum) (s1 : RegNum) (i : BitVec 9)
  /-- sh2add, register form (R257). -/
  | sh2addR (d : RegNum) (s1 : RegNum) (s2 : RegNum)
  /-- sh2add, immediate form (R257). -/
  | sh2addI (d : RegNum) (s1 : RegNum) (i : BitVec 9)
  /-- sh3add, register form (R258). -/
  | sh3addR (d : RegNum) (s1 : RegNum) (s2 : RegNum)
  /-- sh3add, immediate form (R258). -/
  | sh3addI (d : RegNum) (s1 : RegNum) (i : BitVec 9)
  /-- sh4add, register form (R259). -/
  | sh4addR (d : RegNum) (s1 : RegNum) (s2 : RegNum)
  /-- sh4add, immediate form (R259). -/
  | sh4addI (d : RegNum) (s1 : RegNum) (i : BitVec 9)
  /-- and, register form (R260). -/
  | andR (d : RegNum) (s1 : RegNum) (s2 : RegNum)
  /-- and, immediate form (R260). -/
  | andI (d : RegNum) (s1 : RegNum) (i : BitVec 9)
  /-- andc, register form (R261). -/
  | andcR (d : RegNum) (s1 : RegNum) (s2 : RegNum)
  /-- andc, immediate form (R261). -/
  | andcI (d : RegNum) (s1 : RegNum) (i : BitVec 9)
  /-- or, register form (R262). -/
  | orR (d : RegNum) (s1 : RegNum) (s2 : RegNum)
  /-- or, immediate form (R262). -/
  | orI (d : RegNum) (s1 : RegNum) (i : BitVec 9)
  /-- orc, register form (R263). -/
  | orcR (d : RegNum) (s1 : RegNum) (s2 : RegNum)
  /-- orc, immediate form (R263). -/
  | orcI (d : RegNum) (s1 : RegNum) (i : BitVec 9)
  /-- xor, register form (R264). -/
  | xorR (d : RegNum) (s1 : RegNum) (s2 : RegNum)
  /-- xor, immediate form (R264). -/
  | xorI (d : RegNum) (s1 : RegNum) (i : BitVec 9)
  /-- max, register form (R265). -/
  | maxR (d : RegNum) (s1 : RegNum) (s2 : RegNum)
  /-- max, immediate form (R265). -/
  | maxI (d : RegNum) (s1 : RegNum) (i : BitVec 9)
  /-- maxu, register form (R266). -/
  | maxuR (d : RegNum) (s1 : RegNum) (s2 : RegNum)
  /-- maxu, immediate form (R266). -/
  | maxuI (d : RegNum) (s1 : RegNum) (i : BitVec 9)
  /-- min, register form (R267). -/
  | minR (d : RegNum) (s1 : RegNum) (s2 : RegNum)
  /-- min, immediate form (R267). -/
  | minI (d : RegNum) (s1 : RegNum) (i : BitVec 9)
  /-- minu, register form (R268). -/
  | minuR (d : RegNum) (s1 : RegNum) (s2 : RegNum)
  /-- minu, immediate form (R268). -/
  | minuI (d : RegNum) (s1 : RegNum) (i : BitVec 9)
  /-- sxtb (R269). -/
  | sxtb (d : RegNum) (s1 : RegNum)
  /-- sxth (R270). -/
  | sxth (d : RegNum) (s1 : RegNum)
  /-- bswap (R271). -/
  | bswap (d : RegNum) (s1 : RegNum)
  /-- zxth (R272). -/
  | zxth (d : RegNum) (s1 : RegNum)
  /-- clz (R273). -/
  | clz (d : RegNum) (s1 : RegNum)
  -- Multiplies (42_multiply.md)
  /-- mullhus, register form (R383). -/
  | mullhusR (d : RegNum) (s1 : RegNum) (s2 : RegNum)
  /-- mullhus, immediate form (R383). -/
  | mullhusI (d : RegNum) (s1 : RegNum) (i : BitVec 9)
  /-- mulhhs, register form (R382). -/
  | mulhhsR (d : RegNum) (s1 : RegNum) (s2 : RegNum)
  /-- mulhhs, immediate form (R382). -/
  | mulhhsI (d : RegNum) (s1 : RegNum) (i : BitVec 9)
  /-- mull, register form (R371). -/
  | mullR (d : RegNum) (s1 : RegNum) (s2 : RegNum)
  /-- mull, immediate form (R371). -/
  | mullI (d : RegNum) (s1 : RegNum) (i : BitVec 9)
  /-- mullu, register form (R372). -/
  | mulluR (d : RegNum) (s1 : RegNum) (s2 : RegNum)
  /-- mullu, immediate form (R372). -/
  | mulluI (d : RegNum) (s1 : RegNum) (i : BitVec 9)
  /-- mulh, register form (R373). -/
  | mulhR (d : RegNum) (s1 : RegNum) (s2 : RegNum)
  /-- mulh, immediate form (R373). -/
  | mulhI (d : RegNum) (s1 : RegNum) (i : BitVec 9)
  /-- mulhu, register form (R374). -/
  | mulhuR (d : RegNum) (s1 : RegNum) (s2 : RegNum)
  /-- mulhu, immediate form (R374). -/
  | mulhuI (d : RegNum) (s1 : RegNum) (i : BitVec 9)
  /-- mulll, register form (R375). -/
  | mulllR (d : RegNum) (s1 : RegNum) (s2 : RegNum)
  /-- mulll, immediate form (R375). -/
  | mulllI (d : RegNum) (s1 : RegNum) (i : BitVec 9)
  /-- mulllu, register form (R376). -/
  | mullluR (d : RegNum) (s1 : RegNum) (s2 : RegNum)
  /-- mulllu, immediate form (R376). -/
  | mullluI (d : RegNum) (s1 : RegNum) (i : BitVec 9)
  /-- mullh, register form (R377). -/
  | mullhR (d : RegNum) (s1 : RegNum) (s2 : RegNum)
  /-- mullh, immediate form (R377). -/
  | mullhI (d : RegNum) (s1 : RegNum) (i : BitVec 9)
  /-- mullhu, register form (R378). -/
  | mullhuR (d : RegNum) (s1 : RegNum) (s2 : RegNum)
  /-- mullhu, immediate form (R378). -/
  | mullhuI (d : RegNum) (s1 : RegNum) (i : BitVec 9)
  /-- mulhh, register form (R379). -/
  | mulhhR (d : RegNum) (s1 : RegNum) (s2 : RegNum)
  /-- mulhh, immediate form (R379). -/
  | mulhhI (d : RegNum) (s1 : RegNum) (i : BitVec 9)
  /-- mulhhu, register form (R380). -/
  | mulhhuR (d : RegNum) (s1 : RegNum) (s2 : RegNum)
  /-- mulhhu, immediate form (R380). -/
  | mulhhuI (d : RegNum) (s1 : RegNum) (i : BitVec 9)
  /-- mulhs, register form (R381). -/
  | mulhsR (d : RegNum) (s1 : RegNum) (s2 : RegNum)
  /-- mulhs, immediate form (R381). -/
  | mulhsI (d : RegNum) (s1 : RegNum) (i : BitVec 9)
  -- Compare and logical operations (41_compare_select.md)
  /-- cmpeq, to a general register (R301). -/
  | cmpeqRR (d : RegNum) (s1 : RegNum) (s2 : RegNum)
  /-- cmpeq, to a branch register (R301). -/
  | cmpeqBR (b : BrNum) (s1 : RegNum) (s2 : RegNum)
  /-- cmpeq, immediate, to a general register (R301). -/
  | cmpeqRI (d : RegNum) (s1 : RegNum) (i : BitVec 9)
  /-- cmpeq, immediate, to a branch register (R301). -/
  | cmpeqBI (b : BrNum) (s1 : RegNum) (i : BitVec 9)
  /-- cmpne, to a general register (R302). -/
  | cmpneRR (d : RegNum) (s1 : RegNum) (s2 : RegNum)
  /-- cmpne, to a branch register (R302). -/
  | cmpneBR (b : BrNum) (s1 : RegNum) (s2 : RegNum)
  /-- cmpne, immediate, to a general register (R302). -/
  | cmpneRI (d : RegNum) (s1 : RegNum) (i : BitVec 9)
  /-- cmpne, immediate, to a branch register (R302). -/
  | cmpneBI (b : BrNum) (s1 : RegNum) (i : BitVec 9)
  /-- cmpge, to a general register (R303). -/
  | cmpgeRR (d : RegNum) (s1 : RegNum) (s2 : RegNum)
  /-- cmpge, to a branch register (R303). -/
  | cmpgeBR (b : BrNum) (s1 : RegNum) (s2 : RegNum)
  /-- cmpge, immediate, to a general register (R303). -/
  | cmpgeRI (d : RegNum) (s1 : RegNum) (i : BitVec 9)
  /-- cmpge, immediate, to a branch register (R303). -/
  | cmpgeBI (b : BrNum) (s1 : RegNum) (i : BitVec 9)
  /-- cmpgeu, to a general register (R304). -/
  | cmpgeuRR (d : RegNum) (s1 : RegNum) (s2 : RegNum)
  /-- cmpgeu, to a branch register (R304). -/
  | cmpgeuBR (b : BrNum) (s1 : RegNum) (s2 : RegNum)
  /-- cmpgeu, immediate, to a general register (R304). -/
  | cmpgeuRI (d : RegNum) (s1 : RegNum) (i : BitVec 9)
  /-- cmpgeu, immediate, to a branch register (R304). -/
  | cmpgeuBI (b : BrNum) (s1 : RegNum) (i : BitVec 9)
  /-- cmpgt, to a general register (R305). -/
  | cmpgtRR (d : RegNum) (s1 : RegNum) (s2 : RegNum)
  /-- cmpgt, to a branch register (R305). -/
  | cmpgtBR (b : BrNum) (s1 : RegNum) (s2 : RegNum)
  /-- cmpgt, immediate, to a general register (R305). -/
  | cmpgtRI (d : RegNum) (s1 : RegNum) (i : BitVec 9)
  /-- cmpgt, immediate, to a branch register (R305). -/
  | cmpgtBI (b : BrNum) (s1 : RegNum) (i : BitVec 9)
  /-- cmpgtu, to a general register (R306). -/
  | cmpgtuRR (d : RegNum) (s1 : RegNum) (s2 : RegNum)
  /-- cmpgtu, to a branch register (R306). -/
  | cmpgtuBR (b : BrNum) (s1 : RegNum) (s2 : RegNum)
  /-- cmpgtu, immediate, to a general register (R306). -/
  | cmpgtuRI (d : RegNum) (s1 : RegNum) (i : BitVec 9)
  /-- cmpgtu, immediate, to a branch register (R306). -/
  | cmpgtuBI (b : BrNum) (s1 : RegNum) (i : BitVec 9)
  /-- cmple, to a general register (R307). -/
  | cmpleRR (d : RegNum) (s1 : RegNum) (s2 : RegNum)
  /-- cmple, to a branch register (R307). -/
  | cmpleBR (b : BrNum) (s1 : RegNum) (s2 : RegNum)
  /-- cmple, immediate, to a general register (R307). -/
  | cmpleRI (d : RegNum) (s1 : RegNum) (i : BitVec 9)
  /-- cmple, immediate, to a branch register (R307). -/
  | cmpleBI (b : BrNum) (s1 : RegNum) (i : BitVec 9)
  /-- cmpleu, to a general register (R308). -/
  | cmpleuRR (d : RegNum) (s1 : RegNum) (s2 : RegNum)
  /-- cmpleu, to a branch register (R308). -/
  | cmpleuBR (b : BrNum) (s1 : RegNum) (s2 : RegNum)
  /-- cmpleu, immediate, to a general register (R308). -/
  | cmpleuRI (d : RegNum) (s1 : RegNum) (i : BitVec 9)
  /-- cmpleu, immediate, to a branch register (R308). -/
  | cmpleuBI (b : BrNum) (s1 : RegNum) (i : BitVec 9)
  /-- cmplt, to a general register (R309). -/
  | cmpltRR (d : RegNum) (s1 : RegNum) (s2 : RegNum)
  /-- cmplt, to a branch register (R309). -/
  | cmpltBR (b : BrNum) (s1 : RegNum) (s2 : RegNum)
  /-- cmplt, immediate, to a general register (R309). -/
  | cmpltRI (d : RegNum) (s1 : RegNum) (i : BitVec 9)
  /-- cmplt, immediate, to a branch register (R309). -/
  | cmpltBI (b : BrNum) (s1 : RegNum) (i : BitVec 9)
  /-- cmpltu, to a general register (R310). -/
  | cmpltuRR (d : RegNum) (s1 : RegNum) (s2 : RegNum)
  /-- cmpltu, to a branch register (R310). -/
  | cmpltuBR (b : BrNum) (s1 : RegNum) (s2 : RegNum)
  /-- cmpltu, immediate, to a general register (R310). -/
  | cmpltuRI (d : RegNum) (s1 : RegNum) (i : BitVec 9)
  /-- cmpltu, immediate, to a branch register (R310). -/
  | cmpltuBI (b : BrNum) (s1 : RegNum) (i : BitVec 9)
  /-- andl, to a general register (R311). -/
  | andlRR (d : RegNum) (s1 : RegNum) (s2 : RegNum)
  /-- andl, to a branch register (R311). -/
  | andlBR (b : BrNum) (s1 : RegNum) (s2 : RegNum)
  /-- andl, immediate, to a general register (R311). -/
  | andlRI (d : RegNum) (s1 : RegNum) (i : BitVec 9)
  /-- andl, immediate, to a branch register (R311). -/
  | andlBI (b : BrNum) (s1 : RegNum) (i : BitVec 9)
  /-- nandl, to a general register (R312). -/
  | nandlRR (d : RegNum) (s1 : RegNum) (s2 : RegNum)
  /-- nandl, to a branch register (R312). -/
  | nandlBR (b : BrNum) (s1 : RegNum) (s2 : RegNum)
  /-- nandl, immediate, to a general register (R312). -/
  | nandlRI (d : RegNum) (s1 : RegNum) (i : BitVec 9)
  /-- nandl, immediate, to a branch register (R312). -/
  | nandlBI (b : BrNum) (s1 : RegNum) (i : BitVec 9)
  /-- orl, to a general register (R313). -/
  | orlRR (d : RegNum) (s1 : RegNum) (s2 : RegNum)
  /-- orl, to a branch register (R313). -/
  | orlBR (b : BrNum) (s1 : RegNum) (s2 : RegNum)
  /-- orl, immediate, to a general register (R313). -/
  | orlRI (d : RegNum) (s1 : RegNum) (i : BitVec 9)
  /-- orl, immediate, to a branch register (R313). -/
  | orlBI (b : BrNum) (s1 : RegNum) (i : BitVec 9)
  /-- norl, to a general register (R314). -/
  | norlRR (d : RegNum) (s1 : RegNum) (s2 : RegNum)
  /-- norl, to a branch register (R314). -/
  | norlBR (b : BrNum) (s1 : RegNum) (s2 : RegNum)
  /-- norl, immediate, to a general register (R314). -/
  | norlRI (d : RegNum) (s1 : RegNum) (i : BitVec 9)
  /-- norl, immediate, to a branch register (R314). -/
  | norlBI (b : BrNum) (s1 : RegNum) (i : BitVec 9)
  -- Multiplies (42_multiply.md)
  /-- mul32, register form (R384). -/
  | mul32R (d : RegNum) (s1 : RegNum) (s2 : RegNum)
  /-- mul32, immediate form (R384). -/
  | mul32I (d : RegNum) (s1 : RegNum) (i : BitVec 9)
  /-- mul64h, register form (R385). -/
  | mul64hR (d : RegNum) (s1 : RegNum) (s2 : RegNum)
  /-- mul64h, immediate form (R385). -/
  | mul64hI (d : RegNum) (s1 : RegNum) (i : BitVec 9)
  /-- mul64hu, register form (R386). -/
  | mul64huR (d : RegNum) (s1 : RegNum) (s2 : RegNum)
  /-- mul64hu, immediate form (R386). -/
  | mul64huI (d : RegNum) (s1 : RegNum) (i : BitVec 9)
  /-- mulfrac, register form (R387). -/
  | mulfracR (d : RegNum) (s1 : RegNum) (s2 : RegNum)
  /-- mulfrac, immediate form (R387). -/
  | mulfracI (d : RegNum) (s1 : RegNum) (i : BitVec 9)
  -- Select (41_compare_select.md)
  /-- slct, register form (R320). -/
  | slctR (d : RegNum) (c : BrNum) (s1 : RegNum) (s2 : RegNum)
  /-- slct, immediate form (R320). -/
  | slctI (d : RegNum) (c : BrNum) (s1 : RegNum) (i : BitVec 9)
  /-- slctf, register form (R321). -/
  | slctfR (d : RegNum) (c : BrNum) (s1 : RegNum) (s2 : RegNum)
  /-- slctf, immediate form (R321). -/
  | slctfI (d : RegNum) (c : BrNum) (s1 : RegNum) (i : BitVec 9)
  -- Carry and divide step (40_integer.md)
  /-- addcg (R274). -/
  | addcg (d : RegNum) (b : BrNum) (c : BrNum) (s1 : RegNum) (s2 : RegNum)
  /-- divs (R275). -/
  | divs (d : RegNum) (b : BrNum) (c : BrNum) (s1 : RegNum) (s2 : RegNum)
  -- Immediate extensions (44_control.md)
  /-- imml (R466). -/
  | imml (v : BitVec 23)
  /-- immr (R467). -/
  | immr (v : BitVec 23)
  -- System operations (45_system.md, 43_loadstore.md)
  /-- prgins (R436). -/
  | prgins
  /-- sbrk (R473). -/
  | sbrk (n : BitVec 21)
  /-- syscall (R474). -/
  | syscall (n : BitVec 21)
  /-- break (R475). -/
  | breakOp
  -- Loads (43_loadstore.md)
  /-- ldw (R411). -/
  | ldw (d : RegNum) (s1 : RegNum) (i : BitVec 9)
  /-- ldw.d (R416). -/
  | ldwD (d : RegNum) (s1 : RegNum) (i : BitVec 9)
  /-- ldh (R412). -/
  | ldh (d : RegNum) (s1 : RegNum) (i : BitVec 9)
  /-- ldh.d (R417). -/
  | ldhD (d : RegNum) (s1 : RegNum) (i : BitVec 9)
  /-- ldhu (R413). -/
  | ldhu (d : RegNum) (s1 : RegNum) (i : BitVec 9)
  /-- ldhu.d (R418). -/
  | ldhuD (d : RegNum) (s1 : RegNum) (i : BitVec 9)
  /-- ldb (R414). -/
  | ldb (d : RegNum) (s1 : RegNum) (i : BitVec 9)
  /-- ldb.d (R419). -/
  | ldbD (d : RegNum) (s1 : RegNum) (i : BitVec 9)
  /-- ldbu (R415). -/
  | ldbu (d : RegNum) (s1 : RegNum) (i : BitVec 9)
  /-- ldbu.d (R420). -/
  | ldbuD (d : RegNum) (s1 : RegNum) (i : BitVec 9)
  -- Stores, prefetch, purges, sync (43_loadstore.md)
  /-- stw (R425). -/
  | stw (s1 : RegNum) (i : BitVec 9) (s2 : RegNum)
  /-- sth (R426). -/
  | sth (s1 : RegNum) (i : BitVec 9) (s2 : RegNum)
  /-- stb (R427). -/
  | stb (s1 : RegNum) (i : BitVec 9) (s2 : RegNum)
  /-- pft (R430). -/
  | pft (s1 : RegNum) (i : BitVec 9)
  /-- prgadd (R431). -/
  | prgadd (s1 : RegNum) (i : BitVec 9)
  /-- prgset (R432). -/
  | prgset (s1 : RegNum) (i : BitVec 9)
  /-- prginspg (R437). -/
  | prginspg (s1 : RegNum) (i : BitVec 9)
  /-- sync (R433). -/
  | sync
  -- System operations (45_system.md, 43_loadstore.md)
  /-- pswset (R471). -/
  | pswset (s2 : RegNum)
  /-- pswclr (R472). -/
  | pswclr (s2 : RegNum)
  -- Control transfers (44_control.md)
  /-- call (R455). -/
  | call (t : BitVec 23)
  /-- call__r63____r63 (R456). -/
  | callLink
  /-- goto (R453). -/
  | goto (t : BitVec 23)
  /-- goto__r63 (R454). -/
  | gotoLink
  /-- rfi (R460). -/
  | rfi
  /-- br (R451). -/
  | br (c : BrNum) (t : BitVec 23)
  /-- brf (R452). -/
  | brf (c : BrNum) (t : BitVec 23)
  deriving DecidableEq, Repr

end Sys2Proof
end

