-- ==== Sys2Proof/WellFormed.lean ====
section
/-! DEFINITION. What an encoding must satisfy beyond its fields' widths: R63 is not the destination of a multiply or
of a byte or half-word load (30_encoding.md rule R226; 90 C42). What a whole bundle must satisfy is
Sys2Proof/Machine/Legality.lean. -/

namespace Sys2Proof

/-- The destination that rule R226 restricts (the NLDEST and NLIDEST fields), if the operation has one. -/
def Instr.noLinkDest : Instr → Option RegNum
  | .addR _ _ _ => none
  | .addI _ _ _ => none
  | .subR _ _ _ => none
  | .subI _ _ _ => none
  | .shlR _ _ _ => none
  | .shlI _ _ _ => none
  | .shrR _ _ _ => none
  | .shrI _ _ _ => none
  | .shruR _ _ _ => none
  | .shruI _ _ _ => none
  | .sh1addR _ _ _ => none
  | .sh1addI _ _ _ => none
  | .sh2addR _ _ _ => none
  | .sh2addI _ _ _ => none
  | .sh3addR _ _ _ => none
  | .sh3addI _ _ _ => none
  | .sh4addR _ _ _ => none
  | .sh4addI _ _ _ => none
  | .andR _ _ _ => none
  | .andI _ _ _ => none
  | .andcR _ _ _ => none
  | .andcI _ _ _ => none
  | .orR _ _ _ => none
  | .orI _ _ _ => none
  | .orcR _ _ _ => none
  | .orcI _ _ _ => none
  | .xorR _ _ _ => none
  | .xorI _ _ _ => none
  | .maxR _ _ _ => none
  | .maxI _ _ _ => none
  | .maxuR _ _ _ => none
  | .maxuI _ _ _ => none
  | .minR _ _ _ => none
  | .minI _ _ _ => none
  | .minuR _ _ _ => none
  | .minuI _ _ _ => none
  | .sxtb _ _ => none
  | .sxth _ _ => none
  | .bswap _ _ => none
  | .zxth _ _ => none
  | .clz _ _ => none
  | .mullhusR d _ _ => some d
  | .mullhusI d _ _ => some d
  | .mulhhsR d _ _ => some d
  | .mulhhsI d _ _ => some d
  | .mullR d _ _ => some d
  | .mullI d _ _ => some d
  | .mulluR d _ _ => some d
  | .mulluI d _ _ => some d
  | .mulhR d _ _ => some d
  | .mulhI d _ _ => some d
  | .mulhuR d _ _ => some d
  | .mulhuI d _ _ => some d
  | .mulllR d _ _ => some d
  | .mulllI d _ _ => some d
  | .mullluR d _ _ => some d
  | .mullluI d _ _ => some d
  | .mullhR d _ _ => some d
  | .mullhI d _ _ => some d
  | .mullhuR d _ _ => some d
  | .mullhuI d _ _ => some d
  | .mulhhR d _ _ => some d
  | .mulhhI d _ _ => some d
  | .mulhhuR d _ _ => some d
  | .mulhhuI d _ _ => some d
  | .mulhsR d _ _ => some d
  | .mulhsI d _ _ => some d
  | .cmpeqRR _ _ _ => none
  | .cmpeqBR _ _ _ => none
  | .cmpeqRI _ _ _ => none
  | .cmpeqBI _ _ _ => none
  | .cmpneRR _ _ _ => none
  | .cmpneBR _ _ _ => none
  | .cmpneRI _ _ _ => none
  | .cmpneBI _ _ _ => none
  | .cmpgeRR _ _ _ => none
  | .cmpgeBR _ _ _ => none
  | .cmpgeRI _ _ _ => none
  | .cmpgeBI _ _ _ => none
  | .cmpgeuRR _ _ _ => none
  | .cmpgeuBR _ _ _ => none
  | .cmpgeuRI _ _ _ => none
  | .cmpgeuBI _ _ _ => none
  | .cmpgtRR _ _ _ => none
  | .cmpgtBR _ _ _ => none
  | .cmpgtRI _ _ _ => none
  | .cmpgtBI _ _ _ => none
  | .cmpgtuRR _ _ _ => none
  | .cmpgtuBR _ _ _ => none
  | .cmpgtuRI _ _ _ => none
  | .cmpgtuBI _ _ _ => none
  | .cmpleRR _ _ _ => none
  | .cmpleBR _ _ _ => none
  | .cmpleRI _ _ _ => none
  | .cmpleBI _ _ _ => none
  | .cmpleuRR _ _ _ => none
  | .cmpleuBR _ _ _ => none
  | .cmpleuRI _ _ _ => none
  | .cmpleuBI _ _ _ => none
  | .cmpltRR _ _ _ => none
  | .cmpltBR _ _ _ => none
  | .cmpltRI _ _ _ => none
  | .cmpltBI _ _ _ => none
  | .cmpltuRR _ _ _ => none
  | .cmpltuBR _ _ _ => none
  | .cmpltuRI _ _ _ => none
  | .cmpltuBI _ _ _ => none
  | .andlRR _ _ _ => none
  | .andlBR _ _ _ => none
  | .andlRI _ _ _ => none
  | .andlBI _ _ _ => none
  | .nandlRR _ _ _ => none
  | .nandlBR _ _ _ => none
  | .nandlRI _ _ _ => none
  | .nandlBI _ _ _ => none
  | .orlRR _ _ _ => none
  | .orlBR _ _ _ => none
  | .orlRI _ _ _ => none
  | .orlBI _ _ _ => none
  | .norlRR _ _ _ => none
  | .norlBR _ _ _ => none
  | .norlRI _ _ _ => none
  | .norlBI _ _ _ => none
  | .mul32R d _ _ => some d
  | .mul32I d _ _ => some d
  | .mul64hR d _ _ => some d
  | .mul64hI d _ _ => some d
  | .mul64huR d _ _ => some d
  | .mul64huI d _ _ => some d
  | .mulfracR d _ _ => some d
  | .mulfracI d _ _ => some d
  | .slctR _ _ _ _ => none
  | .slctI _ _ _ _ => none
  | .slctfR _ _ _ _ => none
  | .slctfI _ _ _ _ => none
  | .addcg _ _ _ _ _ => none
  | .divs _ _ _ _ _ => none
  | .imml _ => none
  | .immr _ => none
  | .prgins => none
  | .sbrk _ => none
  | .syscall _ => none
  | .breakOp => none
  | .ldw _ _ _ => none
  | .ldwD _ _ _ => none
  | .ldh d _ _ => some d
  | .ldhD d _ _ => some d
  | .ldhu d _ _ => some d
  | .ldhuD d _ _ => some d
  | .ldb d _ _ => some d
  | .ldbD d _ _ => some d
  | .ldbu d _ _ => some d
  | .ldbuD d _ _ => some d
  | .stw _ _ _ => none
  | .sth _ _ _ => none
  | .stb _ _ _ => none
  | .pft _ _ => none
  | .prgadd _ _ => none
  | .prgset _ _ => none
  | .prginspg _ _ => none
  | .sync => none
  | .pswset _ => none
  | .pswclr _ => none
  | .call _ => none
  | .callLink => none
  | .goto _ => none
  | .gotoLink => none
  | .rfi => none
  | .br _ _ => none
  | .brf _ _ => none

/-- The operation may be encoded: a no-link destination is not R63 (30 R226). -/
def Instr.wf (i : Instr) : Bool :=
  match i.noLinkDest with
  | some d => d != linkReg
  | none => true

end Sys2Proof
end

