-- ==== Sys2Proof/Decode.lean ====
section
/-! DEFINITION. Decoding of syllables (30_encoding.md rules R202 to R215, in the order of rule R210), total on every
list of bytes, and the encoder beside it. -/

namespace Sys2Proof

/-- Why a syllable is no valid operation. Every reason makes its bundle illegal (30 R216). -/
inductive DecodeError
  /-- bit 30 is 1 (R204, R218) -/
  | reservedBit30
  /-- the opcode is assigned to no operation (R229) -/
  | unassigned
  /-- an unused field is not zero (R204, R218) -/
  | unusedField
  /-- sbrk without its stop bit (R223) -/
  | sbrkWithoutStop
  /-- fewer than four bytes -/
  | tooShort
  deriving DecidableEq, Repr

/-- What a syllable decodes to. -/
inductive Decoded
  | ok (i : Instr)
  | reject (e : DecodeError)
  deriving DecidableEq, Repr

/-! Operand fields (30 R205). -/

def fieldSrc1 (w : Word) : RegNum := w.extractLsb' 0 6
def fieldSrc2 (w : Word) : RegNum := w.extractLsb' 6 6
def fieldDest (w : Word) : RegNum := w.extractLsb' 12 6
def fieldIdest (w : Word) : RegNum := w.extractLsb' 6 6
def fieldBdest (w : Word) : BrNum := w.extractLsb' 18 3
def fieldIbdest (w : Word) : BrNum := w.extractLsb' 6 3
def fieldScond (w : Word) : BrNum := w.extractLsb' 21 3
def fieldBcond (w : Word) : BrNum := w.extractLsb' 23 3
def fieldIsrc2 (w : Word) : BitVec 9 := w.extractLsb' 12 9
def fieldImm (w : Word) : BitVec 23 := w.extractLsb' 0 23
def fieldBtarg (w : Word) : BitVec 23 := w.extractLsb' 0 23
def fieldSbrkNum (w : Word) : BitVec 21 := w.extractLsb' 0 21

/-- The stop bit (30 R201). -/
def stopBit (w : Word) : Bool := w.getLsbD 31

/-- Accept `i` if the `len` bits from bit `lo` on, unused in its row, are zero (30 R204). -/
def whenZero (w : Word) (lo len : Nat) (i : Instr) : Decoded :=
  if w.extractLsb' lo len = 0#len then .ok i else .reject .unusedField

/-! Opcode tables (30 R211 to R214). -/

/-- Int3R: bits 25:21, operands `d s1 s2` (R211). -/
def int3ROp (opc : Nat) : Option (RegNum → RegNum → RegNum → Instr) :=
  match opc with
  | 0 => some .addR
  | 1 => some .subR
  | 2 => some .shlR
  | 3 => some .shrR
  | 4 => some .shruR
  | 5 => some .sh1addR
  | 6 => some .sh2addR
  | 7 => some .sh3addR
  | 8 => some .sh4addR
  | 9 => some .andR
  | 10 => some .andcR
  | 11 => some .orR
  | 12 => some .orcR
  | 13 => some .xorR
  | 16 => some .maxR
  | 17 => some .maxuR
  | 18 => some .minR
  | 19 => some .minuR
  | 15 => some .mullhusR
  | 20 => some .mulhhsR
  | 21 => some .mullR
  | 22 => some .mulluR
  | 23 => some .mulhR
  | 24 => some .mulhuR
  | 25 => some .mulllR
  | 26 => some .mullluR
  | 27 => some .mullhR
  | 28 => some .mullhuR
  | 29 => some .mulhhR
  | 30 => some .mulhhuR
  | 31 => some .mulhsR
  | _ => none

/-- Int3I: bits 25:21, operands `d s1 i` (R211). -/
def int3IOp (opc : Nat) : Option (RegNum → RegNum → BitVec 9 → Instr) :=
  match opc with
  | 0 => some .addI
  | 1 => some .subI
  | 2 => some .shlI
  | 3 => some .shrI
  | 4 => some .shruI
  | 5 => some .sh1addI
  | 6 => some .sh2addI
  | 7 => some .sh3addI
  | 8 => some .sh4addI
  | 9 => some .andI
  | 10 => some .andcI
  | 11 => some .orI
  | 12 => some .orcI
  | 13 => some .xorI
  | 16 => some .maxI
  | 17 => some .maxuI
  | 18 => some .minI
  | 19 => some .minuI
  | 15 => some .mullhusI
  | 20 => some .mulhhsI
  | 21 => some .mullI
  | 22 => some .mulluI
  | 23 => some .mulhI
  | 24 => some .mulhuI
  | 25 => some .mulllI
  | 26 => some .mullluI
  | 27 => some .mullhI
  | 28 => some .mullhuI
  | 29 => some .mulhhI
  | 30 => some .mulhhuI
  | 31 => some .mulhsI
  | _ => none

/-- Monadic: sub-opcode in bits 20:12, operands `d s1` (R211). -/
def monadicOp (opc : Nat) : Option (RegNum → RegNum → Instr) :=
  match opc with
  | 0 => some .sxtb
  | 1 => some .sxth
  | 2 => some .bswap
  | 3 => some .zxth
  | 4 => some .clz
  | _ => none

/-- Cmp3R_Reg: bits 24:21 (R212). -/
def cmpRROp (opc : Nat) : Option (RegNum → RegNum → RegNum → Instr) :=
  match opc with
  | 0 => some .cmpeqRR
  | 1 => some .cmpneRR
  | 2 => some .cmpgeRR
  | 3 => some .cmpgeuRR
  | 4 => some .cmpgtRR
  | 5 => some .cmpgtuRR
  | 6 => some .cmpleRR
  | 7 => some .cmpleuRR
  | 8 => some .cmpltRR
  | 9 => some .cmpltuRR
  | 10 => some .andlRR
  | 11 => some .nandlRR
  | 12 => some .orlRR
  | 13 => some .norlRR
  | _ => none

/-- Cmp3R_Br: bits 24:21 (R212). -/
def cmpBROp (opc : Nat) : Option (BrNum → RegNum → RegNum → Instr) :=
  match opc with
  | 0 => some .cmpeqBR
  | 1 => some .cmpneBR
  | 2 => some .cmpgeBR
  | 3 => some .cmpgeuBR
  | 4 => some .cmpgtBR
  | 5 => some .cmpgtuBR
  | 6 => some .cmpleBR
  | 7 => some .cmpleuBR
  | 8 => some .cmpltBR
  | 9 => some .cmpltuBR
  | 10 => some .andlBR
  | 11 => some .nandlBR
  | 12 => some .orlBR
  | 13 => some .norlBR
  | _ => none

/-- Cmp3I_Reg: bits 24:21 (R212). -/
def cmpRIOp (opc : Nat) : Option (RegNum → RegNum → BitVec 9 → Instr) :=
  match opc with
  | 0 => some .cmpeqRI
  | 1 => some .cmpneRI
  | 2 => some .cmpgeRI
  | 3 => some .cmpgeuRI
  | 4 => some .cmpgtRI
  | 5 => some .cmpgtuRI
  | 6 => some .cmpleRI
  | 7 => some .cmpleuRI
  | 8 => some .cmpltRI
  | 9 => some .cmpltuRI
  | 10 => some .andlRI
  | 11 => some .nandlRI
  | 12 => some .orlRI
  | 13 => some .norlRI
  | _ => none

/-- Cmp3I_Br: bits 24:21 (R212). -/
def cmpBIOp (opc : Nat) : Option (BrNum → RegNum → BitVec 9 → Instr) :=
  match opc with
  | 0 => some .cmpeqBI
  | 1 => some .cmpneBI
  | 2 => some .cmpgeBI
  | 3 => some .cmpgeuBI
  | 4 => some .cmpgtBI
  | 5 => some .cmpgtuBI
  | 6 => some .cmpleBI
  | 7 => some .cmpleuBI
  | 8 => some .cmpltBI
  | 9 => some .cmpltuBI
  | 10 => some .andlBI
  | 11 => some .nandlBI
  | 12 => some .orlBI
  | 13 => some .norlBI
  | _ => none

/-- Mul64R: bits 25:21 (R212). -/
def mul64ROp (opc : Nat) : Option (RegNum → RegNum → RegNum → Instr) :=
  match opc with
  | 14 => some .mul32R
  | 15 => some .mul64hR
  | 30 => some .mul64huR
  | 31 => some .mulfracR
  | _ => none

/-- Mul64I: bits 25:21 (R212). -/
def mul64IOp (opc : Nat) : Option (RegNum → RegNum → BitVec 9 → Instr) :=
  match opc with
  | 14 => some .mul32I
  | 15 => some .mul64hI
  | 30 => some .mul64huI
  | 31 => some .mulfracI
  | _ => none

/-- Loads: bits 27:23, operands `d s1 i` (R214). -/
def loadOp (opc : Nat) : Option (RegNum → RegNum → BitVec 9 → Instr) :=
  match opc with
  | 0 => some .ldw
  | 1 => some .ldwD
  | 2 => some .ldh
  | 3 => some .ldhD
  | 4 => some .ldhu
  | 5 => some .ldhuD
  | 6 => some .ldb
  | 7 => some .ldbD
  | 8 => some .ldbu
  | 9 => some .ldbuD
  | _ => none

/-- Stores: bits 27:23, operands `s1 i s2` (R214). -/
def storeOp (opc : Nat) : Option (RegNum → BitVec 9 → RegNum → Instr) :=
  match opc with
  | 10 => some .stw
  | 11 => some .sth
  | 12 => some .stb
  | _ => none

/-- pft, prgadd, prgset, prginspg: bits 27:23, operands `s1 i` (R214). -/
def addressOp (opc : Nat) : Option (RegNum → BitVec 9 → Instr) :=
  match opc with
  | 13 => some .pft
  | 14 => some .prgadd
  | 15 => some .prgset
  | 17 => some .prginspg
  | _ => none

/-- Integer format, bit 26 = 0, bit 27 = 0 (R211). -/
def decodeInt3R (w : Word) : Decoded :=
  match int3ROp (w.extractLsb' 21 5).toNat with
  | some f => whenZero w 18 3 (f (fieldDest w) (fieldSrc1 w) (fieldSrc2 w))
  | none => .reject .unassigned

/-- Integer format, bit 26 = 0, bit 27 = 1 (R211); OPC 01110 is the Monadic format. -/
def decodeInt3I (w : Word) : Decoded :=
  if w.extractLsb' 21 5 = 0b01110#5 then
    match monadicOp (w.extractLsb' 12 9).toNat with
    | some f => .ok (f (fieldIdest w) (fieldSrc1 w))
    | none => .reject .unassigned
  else
    match int3IOp (w.extractLsb' 21 5).toNat with
    | some f => .ok (f (fieldIdest w) (fieldSrc1 w) (fieldIsrc2 w))
    | none => .reject .unassigned

/-- Integer format, bit 26 = 1, bit 27 = 0 (R212): OPC 1110 and 1111 are the Mul64 format. -/
def decodeCmpR (w : Word) : Decoded :=
  match mul64ROp (w.extractLsb' 21 5).toNat with
  | some f => whenZero w 18 3 (f (fieldDest w) (fieldSrc1 w) (fieldSrc2 w))
  | none =>
    if w.getLsbD 25 then
      match cmpBROp (w.extractLsb' 21 4).toNat with
      | some f => whenZero w 12 6 (f (fieldBdest w) (fieldSrc1 w) (fieldSrc2 w))
      | none => .reject .unassigned
    else
      match cmpRROp (w.extractLsb' 21 4).toNat with
      | some f => whenZero w 18 3 (f (fieldDest w) (fieldSrc1 w) (fieldSrc2 w))
      | none => .reject .unassigned

/-- Integer format, bit 26 = 1, bit 27 = 1 (R212). -/
def decodeCmpI (w : Word) : Decoded :=
  match mul64IOp (w.extractLsb' 21 5).toNat with
  | some f => .ok (f (fieldIdest w) (fieldSrc1 w) (fieldIsrc2 w))
  | none =>
    if w.getLsbD 25 then
      match cmpBIOp (w.extractLsb' 21 4).toNat with
      | some f => whenZero w 9 3 (f (fieldIbdest w) (fieldSrc1 w) (fieldIsrc2 w))
      | none => .reject .unassigned
    else
      match cmpRIOp (w.extractLsb' 21 4).toNat with
      | some f => .ok (f (fieldIdest w) (fieldSrc1 w) (fieldIsrc2 w))
      | none => .reject .unassigned

/-- Integer format (bits 29:28 = 00). -/
def decodeInteger (w : Word) : Decoded :=
  if w.getLsbD 26 then
    if w.getLsbD 27 then decodeCmpI w else decodeCmpR w
  else
    if w.getLsbD 27 then decodeInt3I w else decodeInt3R w

/-- Specific format with bits 27:24 = 1111: bits 23:21 select (R213). -/
def decodeSystem (w : Word) : Decoded :=
  match (w.extractLsb' 21 3).toNat with
  | 4 => whenZero w 0 21 .prgins
  | 5 => if stopBit w then .ok (.sbrk (fieldSbrkNum w)) else .reject .sbrkWithoutStop
  | 6 => .ok (.syscall (fieldSbrkNum w))
  | 7 => whenZero w 0 21 .breakOp
  | _ => .reject .unassigned

/-- Specific format (bits 29:28 = 01): bits 27:24 select (R213). -/
def decodeSpecific (w : Word) : Decoded :=
  match (w.extractLsb' 24 4).toNat with
  | 0 => whenZero w 18 3 (.slctR (fieldDest w) (fieldScond w) (fieldSrc1 w) (fieldSrc2 w))
  | 1 => whenZero w 18 3 (.slctfR (fieldDest w) (fieldScond w) (fieldSrc1 w) (fieldSrc2 w))
  | 2 => .ok (.addcg (fieldDest w) (fieldBdest w) (fieldScond w) (fieldSrc1 w) (fieldSrc2 w))
  | 4 => .ok (.divs (fieldDest w) (fieldBdest w) (fieldScond w) (fieldSrc1 w) (fieldSrc2 w))
  | 5 => if w.getLsbD 23 then .ok (.immr (fieldImm w)) else .ok (.imml (fieldImm w))
  | 8 => .ok (.slctI (fieldIdest w) (fieldScond w) (fieldSrc1 w) (fieldIsrc2 w))
  | 9 => .ok (.slctfI (fieldIdest w) (fieldScond w) (fieldSrc1 w) (fieldIsrc2 w))
  | 15 => decodeSystem w
  | _ => .reject .unassigned

/-- pswset and pswclr: bits 22:12 and 5:0 are zero (R214). -/
def decodePsw (w : Word) (i : Instr) : Decoded :=
  if w.extractLsb' 12 11 = 0#11 ∧ w.extractLsb' 0 6 = 0#6 then .ok i else .reject .unusedField

/-- pft, prgadd, prgset, prginspg: bits 22:21 and 11:6 are zero (R214). -/
def decodeAddress (w : Word) (i : Instr) : Decoded :=
  if w.extractLsb' 21 2 = 0#2 ∧ w.extractLsb' 6 6 = 0#6 then .ok i else .reject .unusedField

/-- Memory format (bits 29:28 = 10): bits 27:23 select (R214). -/
def decodeMemory (w : Word) : Decoded :=
  let opc := (w.extractLsb' 23 5).toNat
  match loadOp opc with
  | some f => whenZero w 21 2 (f (fieldIdest w) (fieldSrc1 w) (fieldIsrc2 w))
  | none =>
    match storeOp opc with
    | some f => whenZero w 21 2 (f (fieldSrc1 w) (fieldIsrc2 w) (fieldSrc2 w))
    | none =>
      match addressOp opc with
      | some f => decodeAddress w (f (fieldSrc1 w) (fieldIsrc2 w))
      | none =>
        match opc with
        | 16 => whenZero w 0 23 .sync
        | 18 => decodePsw w (.pswset (fieldSrc2 w))
        | 19 => decodePsw w (.pswclr (fieldSrc2 w))
        | _ => .reject .unassigned

/-- Control transfer format (bits 29:28 = 11, R215). -/
def decodeControl (w : Word) : Decoded :=
  if w.getLsbD 27 then
    if w.getLsbD 26 then .ok (.brf (fieldBcond w) (fieldBtarg w)) else .ok (.br (fieldBcond w) (fieldBtarg w))
  else
    match (w.extractLsb' 23 4).toNat with
    | 0 => .ok (.call (fieldBtarg w))
    | 1 => whenZero w 0 23 .callLink
    | 2 => .ok (.goto (fieldBtarg w))
    | 3 => whenZero w 0 23 .gotoLink
    | 4 => whenZero w 0 23 .rfi
    | _ => .reject .unassigned

/-- Decode one syllable (30 R210). -/
def decodeSyllable (w : Word) : Decoded :=
  if w.getLsbD 30 then .reject .reservedBit30
  else
    match (w.extractLsb' 28 2).toNat with
    | 0 => decodeInteger w
    | 1 => decodeSpecific w
    | 2 => decodeMemory w
    | _ => decodeControl w

/-- The word four bytes make in ascending address order (20 R103, 30 R202). -/
def wordOfBytes (bigEndian : Bool) (b0 b1 b2 b3 : Byte) : Word :=
  if bigEndian then b0 ++ b1 ++ b2 ++ b3 else b3 ++ b2 ++ b1 ++ b0

/-- Decode the syllable at the head of a list of bytes and return the bytes after it. -/
def decodeBytes (bigEndian : Bool) : List Byte → Decoded × List Byte
  | b0 :: b1 :: b2 :: b3 :: rest => (decodeSyllable (wordOfBytes bigEndian b0 b1 b2 b3), rest)
  | short => (.reject .tooShort, short)

/-! ### The encoder (30 R206, R211 to R215) -/

/-- The stop bit as a bit. -/
def stopBits (stop : Bool) : BitVec 1 := BitVec.ofBool stop

def encInt3R (stop : Bool) (opc : BitVec 5) (d s1 s2 : RegNum) : Word :=
  stopBits stop ++ 0b00000#5 ++ opc ++ 0#3 ++ d ++ s2 ++ s1

def encInt3I (stop : Bool) (opc : BitVec 5) (d s1 : RegNum) (i : BitVec 9) : Word :=
  stopBits stop ++ 0b00010#5 ++ opc ++ i ++ d ++ s1

def encCmpRR (stop : Bool) (opc : BitVec 4) (d s1 s2 : RegNum) : Word :=
  stopBits stop ++ 0b000010#6 ++ opc ++ 0#3 ++ d ++ s2 ++ s1

def encCmpBR (stop : Bool) (opc : BitVec 4) (b : BrNum) (s1 s2 : RegNum) : Word :=
  stopBits stop ++ 0b000011#6 ++ opc ++ b ++ 0#6 ++ s2 ++ s1

def encCmpRI (stop : Bool) (opc : BitVec 4) (d s1 : RegNum) (i : BitVec 9) : Word :=
  stopBits stop ++ 0b000110#6 ++ opc ++ i ++ d ++ s1

def encCmpBI (stop : Bool) (opc : BitVec 4) (b : BrNum) (s1 : RegNum) (i : BitVec 9) : Word :=
  stopBits stop ++ 0b000111#6 ++ opc ++ i ++ 0#3 ++ b ++ s1

def encMul64R (stop : Bool) (opc : BitVec 5) (d s1 s2 : RegNum) : Word :=
  stopBits stop ++ 0b00001#5 ++ opc ++ 0#3 ++ d ++ s2 ++ s1

def encMul64I (stop : Bool) (opc : BitVec 5) (d s1 : RegNum) (i : BitVec 9) : Word :=
  stopBits stop ++ 0b00011#5 ++ opc ++ i ++ d ++ s1

def encSelectR (stop : Bool) (opc : BitVec 3) (d : RegNum) (c : BrNum) (s1 s2 : RegNum) : Word :=
  stopBits stop ++ 0b0010#4 ++ opc ++ c ++ 0#3 ++ d ++ s2 ++ s1

def encSelectI (stop : Bool) (opc : BitVec 3) (d : RegNum) (c : BrNum) (s1 : RegNum) (i : BitVec 9) : Word :=
  stopBits stop ++ 0b0011#4 ++ opc ++ c ++ i ++ d ++ s1

def encCgen (stop : Bool) (opc : BitVec 4) (d : RegNum) (b c : BrNum) (s1 s2 : RegNum) : Word :=
  stopBits stop ++ 0b001#3 ++ opc ++ c ++ b ++ d ++ s2 ++ s1

def encImm (stop : Bool) (opc : BitVec 5) (v : BitVec 23) : Word :=
  stopBits stop ++ 0b001#3 ++ opc ++ v

def encSystem (stop : Bool) (opc : BitVec 7) (n : BitVec 21) : Word :=
  stopBits stop ++ 0b001#3 ++ opc ++ n

def encMemory (stop : Bool) (opc : BitVec 5) (i : BitVec 9) (r s1 : RegNum) : Word :=
  stopBits stop ++ 0b010#3 ++ opc ++ 0#2 ++ i ++ r ++ s1

def encCall (stop : Bool) (opc : BitVec 3) (lnk : BitVec 1) (t : BitVec 23) : Word :=
  stopBits stop ++ 0b0110#4 ++ opc ++ lnk ++ t

def encBranch (stop : Bool) (opc : BitVec 1) (c : BrNum) (t : BitVec 23) : Word :=
  stopBits stop ++ 0b0111#4 ++ opc ++ c ++ t

/-- The syllable of an operation with the given stop bit; that of sbrk is always 1 (30 R223). -/
def encodeSyllable (stop : Bool) : Instr → Word
  | .addR d s1 s2 => encInt3R stop 0b00000#5 d s1 s2
  | .addI d s1 i => encInt3I stop 0b00000#5 d s1 i
  | .subR d s1 s2 => encInt3R stop 0b00001#5 d s1 s2
  | .subI d s1 i => encInt3I stop 0b00001#5 d s1 i
  | .shlR d s1 s2 => encInt3R stop 0b00010#5 d s1 s2
  | .shlI d s1 i => encInt3I stop 0b00010#5 d s1 i
  | .shrR d s1 s2 => encInt3R stop 0b00011#5 d s1 s2
  | .shrI d s1 i => encInt3I stop 0b00011#5 d s1 i
  | .shruR d s1 s2 => encInt3R stop 0b00100#5 d s1 s2
  | .shruI d s1 i => encInt3I stop 0b00100#5 d s1 i
  | .sh1addR d s1 s2 => encInt3R stop 0b00101#5 d s1 s2
  | .sh1addI d s1 i => encInt3I stop 0b00101#5 d s1 i
  | .sh2addR d s1 s2 => encInt3R stop 0b00110#5 d s1 s2
  | .sh2addI d s1 i => encInt3I stop 0b00110#5 d s1 i
  | .sh3addR d s1 s2 => encInt3R stop 0b00111#5 d s1 s2
  | .sh3addI d s1 i => encInt3I stop 0b00111#5 d s1 i
  | .sh4addR d s1 s2 => encInt3R stop 0b01000#5 d s1 s2
  | .sh4addI d s1 i => encInt3I stop 0b01000#5 d s1 i
  | .andR d s1 s2 => encInt3R stop 0b01001#5 d s1 s2
  | .andI d s1 i => encInt3I stop 0b01001#5 d s1 i
  | .andcR d s1 s2 => encInt3R stop 0b01010#5 d s1 s2
  | .andcI d s1 i => encInt3I stop 0b01010#5 d s1 i
  | .orR d s1 s2 => encInt3R stop 0b01011#5 d s1 s2
  | .orI d s1 i => encInt3I stop 0b01011#5 d s1 i
  | .orcR d s1 s2 => encInt3R stop 0b01100#5 d s1 s2
  | .orcI d s1 i => encInt3I stop 0b01100#5 d s1 i
  | .xorR d s1 s2 => encInt3R stop 0b01101#5 d s1 s2
  | .xorI d s1 i => encInt3I stop 0b01101#5 d s1 i
  | .maxR d s1 s2 => encInt3R stop 0b10000#5 d s1 s2
  | .maxI d s1 i => encInt3I stop 0b10000#5 d s1 i
  | .maxuR d s1 s2 => encInt3R stop 0b10001#5 d s1 s2
  | .maxuI d s1 i => encInt3I stop 0b10001#5 d s1 i
  | .minR d s1 s2 => encInt3R stop 0b10010#5 d s1 s2
  | .minI d s1 i => encInt3I stop 0b10010#5 d s1 i
  | .minuR d s1 s2 => encInt3R stop 0b10011#5 d s1 s2
  | .minuI d s1 i => encInt3I stop 0b10011#5 d s1 i
  | .sxtb d s1 => encInt3I stop 0b01110#5 d s1 0b000000000#9
  | .sxth d s1 => encInt3I stop 0b01110#5 d s1 0b000000001#9
  | .bswap d s1 => encInt3I stop 0b01110#5 d s1 0b000000010#9
  | .zxth d s1 => encInt3I stop 0b01110#5 d s1 0b000000011#9
  | .clz d s1 => encInt3I stop 0b01110#5 d s1 0b000000100#9
  | .mullhusR d s1 s2 => encInt3R stop 0b01111#5 d s1 s2
  | .mullhusI d s1 i => encInt3I stop 0b01111#5 d s1 i
  | .mulhhsR d s1 s2 => encInt3R stop 0b10100#5 d s1 s2
  | .mulhhsI d s1 i => encInt3I stop 0b10100#5 d s1 i
  | .mullR d s1 s2 => encInt3R stop 0b10101#5 d s1 s2
  | .mullI d s1 i => encInt3I stop 0b10101#5 d s1 i
  | .mulluR d s1 s2 => encInt3R stop 0b10110#5 d s1 s2
  | .mulluI d s1 i => encInt3I stop 0b10110#5 d s1 i
  | .mulhR d s1 s2 => encInt3R stop 0b10111#5 d s1 s2
  | .mulhI d s1 i => encInt3I stop 0b10111#5 d s1 i
  | .mulhuR d s1 s2 => encInt3R stop 0b11000#5 d s1 s2
  | .mulhuI d s1 i => encInt3I stop 0b11000#5 d s1 i
  | .mulllR d s1 s2 => encInt3R stop 0b11001#5 d s1 s2
  | .mulllI d s1 i => encInt3I stop 0b11001#5 d s1 i
  | .mullluR d s1 s2 => encInt3R stop 0b11010#5 d s1 s2
  | .mullluI d s1 i => encInt3I stop 0b11010#5 d s1 i
  | .mullhR d s1 s2 => encInt3R stop 0b11011#5 d s1 s2
  | .mullhI d s1 i => encInt3I stop 0b11011#5 d s1 i
  | .mullhuR d s1 s2 => encInt3R stop 0b11100#5 d s1 s2
  | .mullhuI d s1 i => encInt3I stop 0b11100#5 d s1 i
  | .mulhhR d s1 s2 => encInt3R stop 0b11101#5 d s1 s2
  | .mulhhI d s1 i => encInt3I stop 0b11101#5 d s1 i
  | .mulhhuR d s1 s2 => encInt3R stop 0b11110#5 d s1 s2
  | .mulhhuI d s1 i => encInt3I stop 0b11110#5 d s1 i
  | .mulhsR d s1 s2 => encInt3R stop 0b11111#5 d s1 s2
  | .mulhsI d s1 i => encInt3I stop 0b11111#5 d s1 i
  | .cmpeqRR d s1 s2 => encCmpRR stop 0b0000#4 d s1 s2
  | .cmpeqBR b s1 s2 => encCmpBR stop 0b0000#4 b s1 s2
  | .cmpeqRI d s1 i => encCmpRI stop 0b0000#4 d s1 i
  | .cmpeqBI b s1 i => encCmpBI stop 0b0000#4 b s1 i
  | .cmpneRR d s1 s2 => encCmpRR stop 0b0001#4 d s1 s2
  | .cmpneBR b s1 s2 => encCmpBR stop 0b0001#4 b s1 s2
  | .cmpneRI d s1 i => encCmpRI stop 0b0001#4 d s1 i
  | .cmpneBI b s1 i => encCmpBI stop 0b0001#4 b s1 i
  | .cmpgeRR d s1 s2 => encCmpRR stop 0b0010#4 d s1 s2
  | .cmpgeBR b s1 s2 => encCmpBR stop 0b0010#4 b s1 s2
  | .cmpgeRI d s1 i => encCmpRI stop 0b0010#4 d s1 i
  | .cmpgeBI b s1 i => encCmpBI stop 0b0010#4 b s1 i
  | .cmpgeuRR d s1 s2 => encCmpRR stop 0b0011#4 d s1 s2
  | .cmpgeuBR b s1 s2 => encCmpBR stop 0b0011#4 b s1 s2
  | .cmpgeuRI d s1 i => encCmpRI stop 0b0011#4 d s1 i
  | .cmpgeuBI b s1 i => encCmpBI stop 0b0011#4 b s1 i
  | .cmpgtRR d s1 s2 => encCmpRR stop 0b0100#4 d s1 s2
  | .cmpgtBR b s1 s2 => encCmpBR stop 0b0100#4 b s1 s2
  | .cmpgtRI d s1 i => encCmpRI stop 0b0100#4 d s1 i
  | .cmpgtBI b s1 i => encCmpBI stop 0b0100#4 b s1 i
  | .cmpgtuRR d s1 s2 => encCmpRR stop 0b0101#4 d s1 s2
  | .cmpgtuBR b s1 s2 => encCmpBR stop 0b0101#4 b s1 s2
  | .cmpgtuRI d s1 i => encCmpRI stop 0b0101#4 d s1 i
  | .cmpgtuBI b s1 i => encCmpBI stop 0b0101#4 b s1 i
  | .cmpleRR d s1 s2 => encCmpRR stop 0b0110#4 d s1 s2
  | .cmpleBR b s1 s2 => encCmpBR stop 0b0110#4 b s1 s2
  | .cmpleRI d s1 i => encCmpRI stop 0b0110#4 d s1 i
  | .cmpleBI b s1 i => encCmpBI stop 0b0110#4 b s1 i
  | .cmpleuRR d s1 s2 => encCmpRR stop 0b0111#4 d s1 s2
  | .cmpleuBR b s1 s2 => encCmpBR stop 0b0111#4 b s1 s2
  | .cmpleuRI d s1 i => encCmpRI stop 0b0111#4 d s1 i
  | .cmpleuBI b s1 i => encCmpBI stop 0b0111#4 b s1 i
  | .cmpltRR d s1 s2 => encCmpRR stop 0b1000#4 d s1 s2
  | .cmpltBR b s1 s2 => encCmpBR stop 0b1000#4 b s1 s2
  | .cmpltRI d s1 i => encCmpRI stop 0b1000#4 d s1 i
  | .cmpltBI b s1 i => encCmpBI stop 0b1000#4 b s1 i
  | .cmpltuRR d s1 s2 => encCmpRR stop 0b1001#4 d s1 s2
  | .cmpltuBR b s1 s2 => encCmpBR stop 0b1001#4 b s1 s2
  | .cmpltuRI d s1 i => encCmpRI stop 0b1001#4 d s1 i
  | .cmpltuBI b s1 i => encCmpBI stop 0b1001#4 b s1 i
  | .andlRR d s1 s2 => encCmpRR stop 0b1010#4 d s1 s2
  | .andlBR b s1 s2 => encCmpBR stop 0b1010#4 b s1 s2
  | .andlRI d s1 i => encCmpRI stop 0b1010#4 d s1 i
  | .andlBI b s1 i => encCmpBI stop 0b1010#4 b s1 i
  | .nandlRR d s1 s2 => encCmpRR stop 0b1011#4 d s1 s2
  | .nandlBR b s1 s2 => encCmpBR stop 0b1011#4 b s1 s2
  | .nandlRI d s1 i => encCmpRI stop 0b1011#4 d s1 i
  | .nandlBI b s1 i => encCmpBI stop 0b1011#4 b s1 i
  | .orlRR d s1 s2 => encCmpRR stop 0b1100#4 d s1 s2
  | .orlBR b s1 s2 => encCmpBR stop 0b1100#4 b s1 s2
  | .orlRI d s1 i => encCmpRI stop 0b1100#4 d s1 i
  | .orlBI b s1 i => encCmpBI stop 0b1100#4 b s1 i
  | .norlRR d s1 s2 => encCmpRR stop 0b1101#4 d s1 s2
  | .norlBR b s1 s2 => encCmpBR stop 0b1101#4 b s1 s2
  | .norlRI d s1 i => encCmpRI stop 0b1101#4 d s1 i
  | .norlBI b s1 i => encCmpBI stop 0b1101#4 b s1 i
  | .mul32R d s1 s2 => encMul64R stop 0b01110#5 d s1 s2
  | .mul32I d s1 i => encMul64I stop 0b01110#5 d s1 i
  | .mul64hR d s1 s2 => encMul64R stop 0b01111#5 d s1 s2
  | .mul64hI d s1 i => encMul64I stop 0b01111#5 d s1 i
  | .mul64huR d s1 s2 => encMul64R stop 0b11110#5 d s1 s2
  | .mul64huI d s1 i => encMul64I stop 0b11110#5 d s1 i
  | .mulfracR d s1 s2 => encMul64R stop 0b11111#5 d s1 s2
  | .mulfracI d s1 i => encMul64I stop 0b11111#5 d s1 i
  | .slctR d c s1 s2 => encSelectR stop 0b000#3 d c s1 s2
  | .slctI d c s1 i => encSelectI stop 0b000#3 d c s1 i
  | .slctfR d c s1 s2 => encSelectR stop 0b001#3 d c s1 s2
  | .slctfI d c s1 i => encSelectI stop 0b001#3 d c s1 i
  | .addcg d b c s1 s2 => encCgen stop 0b0010#4 d b c s1 s2
  | .divs d b c s1 s2 => encCgen stop 0b0100#4 d b c s1 s2
  | .imml v => encImm stop 0b01010#5 v
  | .immr v => encImm stop 0b01011#5 v
  | .prgins => encSystem stop 0b1111100#7 0#21
  | .sbrk n => encSystem true 0b1111101#7 n
  | .syscall n => encSystem stop 0b1111110#7 n
  | .breakOp => encSystem stop 0b1111111#7 0#21
  | .ldw d s1 i => encMemory stop 0b00000#5 i d s1
  | .ldwD d s1 i => encMemory stop 0b00001#5 i d s1
  | .ldh d s1 i => encMemory stop 0b00010#5 i d s1
  | .ldhD d s1 i => encMemory stop 0b00011#5 i d s1
  | .ldhu d s1 i => encMemory stop 0b00100#5 i d s1
  | .ldhuD d s1 i => encMemory stop 0b00101#5 i d s1
  | .ldb d s1 i => encMemory stop 0b00110#5 i d s1
  | .ldbD d s1 i => encMemory stop 0b00111#5 i d s1
  | .ldbu d s1 i => encMemory stop 0b01000#5 i d s1
  | .ldbuD d s1 i => encMemory stop 0b01001#5 i d s1
  | .stw s1 i s2 => encMemory stop 0b01010#5 i s2 s1
  | .sth s1 i s2 => encMemory stop 0b01011#5 i s2 s1
  | .stb s1 i s2 => encMemory stop 0b01100#5 i s2 s1
  | .pft s1 i => encMemory stop 0b01101#5 i 0#6 s1
  | .prgadd s1 i => encMemory stop 0b01110#5 i 0#6 s1
  | .prgset s1 i => encMemory stop 0b01111#5 i 0#6 s1
  | .prginspg s1 i => encMemory stop 0b10001#5 i 0#6 s1
  | .sync => encMemory stop 0b10000#5 0#9 0#6 0#6
  | .pswset s2 => encMemory stop 0b10010#5 0#9 s2 0#6
  | .pswclr s2 => encMemory stop 0b10011#5 0#9 s2 0#6
  | .call t => encCall stop 0b000#3 0b0#1 t
  | .callLink => encCall stop 0b000#3 0b1#1 0#23
  | .goto t => encCall stop 0b001#3 0b0#1 t
  | .gotoLink => encCall stop 0b001#3 0b1#1 0#23
  | .rfi => encCall stop 0b010#3 0b0#1 0#23
  | .br c t => encBranch stop 0b0#1 c t
  | .brf c t => encBranch stop 0b1#1 c t

/-- The words of an operation that ends its bundle: one syllable with its stop bit set (30 R200, R201). -/
def encode (i : Instr) : List Word := [encodeSyllable true i]

/-- The instruction the decoder reads from an instruction whose `nbits` low bits are those of `w` and whose other
bits are zero, laid out as little-endian memory holds it. -/
def decodeTableWord (nbits w : Nat) : Option Instr :=
  let v : Word := BitVec.ofNat 32 (w % 2 ^ nbits)
  match (decodeBytes false
      [v.extractLsb' 0 8, v.extractLsb' 8 8, v.extractLsb' 16 8, v.extractLsb' 24 8]).1 with
  | .ok i => some i
  | .reject _ => none

end Sys2Proof
end

