-- ==== Sys2Proof/Machine/State.lean ====
section
/-! DEFINITION. Everything the spec gives the ST231 (10_state.md), as plain data, and the state after reset
(70_reset_and_hazards.md rule R700). -/

namespace Sys2Proof.Machine

/-! ### Names -/

/-- The causes of manual Table 3 (60 R501). -/
inductive Cause
  | stbusIcError
  | stbusDcError
  | externInt
  | ibreak
  | itlb
  | sbreak
  | illInst
  | syscall
  | dbreak
  | misalignedTrap
  | cregNoMapping
  | cregAccessViolation
  | dtlb
  | sdiTimeout
  deriving DecidableEq, Repr

/-- The cause field of TLB_EXCAUSE (10 R68). -/
inductive TlbCause
  | noMapping
  | protViolation
  | writeToClean
  | multiMapping
  deriving DecidableEq, Repr

/-- What a TLB exception records in TLB_EXCAUSE (20 R136). -/
structure TlbRecord where
  cause : TlbCause
  spec : Bool
  write : Bool
  inUtlb : Bool
  index : BitVec 8
  deriving DecidableEq, Repr

/-- A thrown exception: its cause, the value passed to THROW, and the TLB record of ITLB and DTLB (60 R505, R510). -/
structure Raised where
  cause : Cause
  addr : Word := 0#32
  tlb : Option TlbRecord := none
  deriving DecidableEq, Repr

/-- Data access sizes (20 R102). -/
inductive Width
  | byte
  | half
  | word
  deriving DecidableEq, Repr

/-- The control registers of manual Table 26 (10 R40). -/
inductive CReg
  | psw | savedPsw | savedPc | handlerPc | excause | exaddress | version | savedSavedPsw | savedSavedPc
  | peripheralBase | scratch1 | scratch2 | scratch3 | scratch4 | excauseno
  | tlbIndex | tlbEntry0 | tlbEntry1 | tlbEntry2 | tlbEntry3 | tlbExcause | tlbControl | tlbReplace | tlbAsid
  | reserved (k : Fin 16)
  | dbreakLower | dbreakUpper | dbreakControl | state1 | ibreakLower | ibreakUpper | ibreakControl
  | pmCr | pmCnt (k : Fin 4) | pmPclk
  | sdiData (i : Fin 4) | sdiReady (i : Fin 4) | sdiControl (i : Fin 4) | sdiCount (i : Fin 4)
  | sdiTimeout (i : Fin 4)
  | scuBase (k : Fin 4) | scuLimit (k : Fin 4)
  deriving DecidableEq, Repr

/-- The registers of the peripheral block and the words of the debug ROM (10 R81 to R85). -/
inductive PeriphReg
  | intPending (k : Fin 2) | intMask (k : Fin 2) | intTest (k : Fin 2) | intClr (k : Fin 2) | intSet (k : Fin 2)
  | intReserved | intMaskClr (k : Fin 2) | intMaskSet (k : Fin 2)
  | timeConst (i : Fin 3) | timeCount (i : Fin 3) | timeControl (i : Fin 3) | timeDivide
  | dsr (n : Fin 32)
  | rom (n : Fin 256)
  deriving DecidableEq, Repr

/-! ### Effects of operations -/

/-- One assignment of a commit phase (00 R14). -/
inductive Write
  /-- `R[r] <- v` -/
  | gpr (r : RegNum) (v : Word)
  /-- `B[b] <- v` -/
  | br (b : BrNum) (v : Bool)
  /-- `PC <- v` -/
  | pc (v : Word)
  /-- `PSW <- v`, already filtered (10 R33) -/
  | psw (v : Word)
  /-- a store to physical memory -/
  | mem (pa : Word) (w : Width) (v : Word)
  /-- a store to a control register -/
  | creg (r : CReg) (v : Word)
  /-- a word store to a peripheral register -/
  | periph (r : PeriphReg) (v : Word)
  /-- the read side effect of TLB_REPLACE (20 R140) -/
  | lfsrClock
  /-- the head of an input port is consumed (61 R643) -/
  | sdiTake (i : Fin 4)
  /-- the bus reports an error for a data access (20 R176) -/
  | busError
  /-- the state updates of rfi (44 R460) -/
  | returnFromException
  /-- the core enters idle mode (61 R690) -/
  | enterIdle
  deriving DecidableEq, Repr

/-- How the performance monitor counts an operation (61 R681, R684). -/
inductive OpKind
  | plain
  | nop
  | loadStore
  | branchTaken
  | branchNotTaken
  | longImmediate
  deriving DecidableEq, Repr

/-- What the pre-commit phase of an operation found (00 R14): the exception it throws, the SDI port it must wait for,
and the assignments of its commit phase. -/
structure Effect where
  kind : OpKind := .plain
  raised : Option Raised := none
  stall : Option (Fin 4) := none
  writes : List Write := []
  deriving DecidableEq, Repr

/-- The bundle being evaluated. Between bundles it is `{}`: the next operation is then a bundle of its own
(assumption 1). -/
structure BundleCtx where
  /-- syllables of the bundle -/
  words : Nat := 1
  /-- operations of the bundle that are evaluated after the next one -/
  toIssue : Nat := 0
  /-- the immediate extension attached to the next operation (30 R208) -/
  ext : Option (BitVec 23) := none
  /-- effects of the operations already evaluated -/
  pending : List Effect := []
  deriving DecidableEq, Repr

/-! ### Parts of the state -/

/-- Physical memory: the bytes that differ from what an unlisted byte reads as (assumption 8). -/
structure Memory where
  cells : List Host.Cell
  deriving DecidableEq, Repr

/-- The registers of exception entry and return, HANDLER_PC and the scratch registers (10 R43 to R47). -/
structure TrapRegs where
  savedPc : Word := 0#32
  savedPsw : Word := 0#32
  savedSavedPc : Word := 0#32
  savedSavedPsw : Word := 0#32
  handlerPc : Word := 0#32
  excauseno : BitVec 5 := 0#5
  exaddress : Word := 0#32
  scratch1 : Word := 0#32
  scratch2 : Word := 0#32
  scratch3 : Word := 0#32
  scratch4 : Word := 0#32
  deriving DecidableEq, Repr

/-- One UTLB entry: the writable bits of TLB_ENTRY0, TLB_ENTRY1 and TLB_ENTRY2 (10 R61 to R63). -/
structure UtlbEntry where
  word0 : BitVec 25 := 0#25
  vaddr : BitVec 19 := 0#19
  paddr : BitVec 19 := 0#19
  deriving DecidableEq, Repr

/-- The memory management registers (10 R57, R60 to R69). -/
structure Mmu where
  tlbIndex : BitVec 6 := 0#6
  utlb : Vector UtlbEntry 64 := Vector.replicate 64 {}
  lfsr : BitVec 16 := 0xFFFF#16
  limit : BitVec 8 := 0x40#8
  asid : BitVec 8 := 0#8
  /-- TLB_EXCAUSE; its reserved bits are 0 -/
  tlbExcause : Word := 0#32
  scuBase : Vector (BitVec 19) 4 := Vector.replicate 4 0#19
  scuLimit : Vector (BitVec 19) 4 := Vector.replicate 4 0x7FFFF#19
  /-- STATE1.PARTITION -/
  partition : BitVec 2 := 0#2
  deriving DecidableEq, Repr

/-- The breakpoint registers (10 R70). -/
structure Breakpoints where
  dLower : Word := 0#32
  dUpper : Word := 0#32
  dControl : BitVec 4 := 0#4
  iLower : Word := 0#32
  iUpper : Word := 0#32
  iControl : BitVec 4 := 0#4
  deriving DecidableEq, Repr

/-- The performance monitor (10 R71). -/
structure Perf where
  enb : Bool := false
  idle : Bool := false
  event : Vector (BitVec 5) 4 := Vector.replicate 4 0#5
  cnt : Vector Word 4 := Vector.replicate 4 0#32
  pclk : Word := 0#32
  deriving DecidableEq, Repr

/-- One SDI port (10 R72, 61 R640). -/
structure SdiPort where
  priv : BitVec 2 := 0#2
  resetOutput : Bool := false
  /-- CONTROL bit 7: 1 disables timeouts (90 C20) -/
  timeoutDisable : Bool := false
  count : Word
  timeout : Word
  /-- words in the channel, oldest first -/
  queue : List Word := []
  deriving DecidableEq, Repr

/-- The interrupt controller's registers (10 R81). -/
structure IntCtl where
  mask : Vector Word 2 := Vector.replicate 2 0#32
  test : Vector Word 2 := Vector.replicate 2 0#32
  deriving DecidableEq, Repr

/-- One timer (10 R82). -/
structure Timer where
  const : Word := 0#32
  count : Word := 0#32
  enable : Bool := false
  intEnable : Bool := false
  status : Bool := false
  deriving DecidableEq, Repr

/-- The three timers, their divider and its prescaler (10 R82, 60 R545). -/
structure Timers where
  timer : Vector Timer 3 := Vector.replicate 3 {}
  divide : BitVec 16 := 0#16
  presc : Nat := 0
  deriving DecidableEq, Repr

/-- The debug support unit's registers (10 R84, 61 R667, R668). -/
structure Dsu where
  /-- DSR1.SUPERVISOR_WRITE_ENABLE -/
  supWrite : Bool := true
  /-- DSR1.USER_WRITE_ENABLE -/
  userWrite : Bool := false
  /-- DSR1.HOST_EVENT_ACK_PENDING -/
  eventAckPending : Bool := false
  /-- DSR1.OUTPUT_PENDING -/
  outputPending : Bool := false
  /-- DSR1.TRIGGER_OUT -/
  triggerOut : Bool := false
  /-- DSR1.TRIGGER_ENABLE -/
  triggerEnable : Bool := false
  /-- DSR1.SW_FLAGS -/
  swFlags : BitVec 16 := 0#16
  /-- DSR2 (bits 31:8 zero in the TAPLink variant) -/
  dsr2 : Word := 0#32
  /-- the byte handed to the TAPLink and not yet sent -/
  linkByte : Byte := 0#8
  /-- DSR3 to DSR31 -/
  general : Vector Word 29 := Vector.replicate 29 0#32
  deriving DecidableEq, Repr

/-- The levels of the input pins, as last driven (10 R90). -/
structure Pins where
  /-- IRQ[31:0]; bits 2:0 are not connected -/
  irqLow : Word := 0#32
  /-- IRQ[63:32] -/
  irqHigh : Word := 0#32
  irqMaster : Bool := false
  triggerIn : Bool := false
  /-- the reset inputs of the SDI ports, SDIi_CONTROL.RESETINPUT, driven by the devices (61 R650) -/
  sdiReset : Vector Bool 4 := Vector.replicate 4 false
  deriving DecidableEq, Repr

/-- What the environment can do at a bundle boundary (70 R720; assumption 10). -/
inductive EnvEvent
  /-- one bus clock cycle (60 R545) -/
  | busClock
  /-- drive interrupt line `line` (60 R541) -/
  | irq (line : Fin 64) (level : Bool)
  /-- drive IRQ_MASTER_IN (60 R543) -/
  | irqMaster (level : Bool)
  /-- drive the trigger-in pin (61 R611) -/
  | triggerIn (level : Bool)
  /-- the host reads DSR `n` (61 R673, R674) -/
  | hostPeek (n : Fin 32)
  /-- the host writes DSR `n` (61 R673, R674) -/
  | hostPoke (n : Fin 32) (v : Word)
  /-- the host sends an event (61 R611) -/
  | hostEvent (reason channel : BitVec 3)
  /-- the host acknowledges the DSU's event (61 R668) -/
  | hostEventAck
  /-- the DSU sends its pending output (61 R668) -/
  | dsuSend
  /-- the device of an input port appends a word (61 R640) -/
  | sdiPush (i : Fin 4) (v : Word)
  /-- the device of an output port removes the head (61 R640) -/
  | sdiPop (i : Fin 4)
  /-- the device drives a port's reset input (61 R650) -/
  | sdiResetInput (i : Fin 4) (level : Bool)
  /-- a bus error of a write-back or posted write is reported (20 R176) -/
  | busErrorD
  /-- another bus master writes a byte of memory (93 H9) -/
  | busWrite (pa : Word) (v : Byte)
  /-- the reset input is asserted (70 R700) -/
  | resetPin
  deriving DecidableEq, Repr

/-- What the DSU sends to the host (61 R668, R673, R674). -/
inductive DsuMessage
  | peeked (n : Fin 32) (v : Word)
  | poked (n : Fin 32)
  | event (v : Word)
  | eventAck (reason channel : BitVec 3)
  deriving DecidableEq, Repr

/-- The whole machine. -/
structure State where
  /-- parameters, never changed by a step (00 R8) -/
  cfg : Params
  /-- PC (10 R21) -/
  pc : Word
  /-- R1 to R63, R1 first (10 R22) -/
  regs : Vector Word 63
  /-- B0 to B7 (10 R25) -/
  branch : Vector Bool 8
  /-- PSW (10 R30) -/
  psw : Word
  trap : TrapRegs
  mmu : Mmu
  brk : Breakpoints
  pm : Perf
  sdi : Vector SdiPort 4
  intc : IntCtl
  timers : Timers
  dsu : Dsu
  pins : Pins
  mem : Memory
  /-- a debug interrupt is requested (61 R611) -/
  dbgPending : Bool
  /-- a D-side bus error that is reported after so many bundle boundaries (20 R176; assumption 12) -/
  dcError : Option Nat
  /-- the core is in idle mode (61 R690) -/
  idleMode : Bool
  /-- the model's: the environment's events still to come, one list per bundle boundary (assumption 10) -/
  inputs : List (List EnvEvent)
  /-- the model's: what the DSU has sent, oldest first -/
  toHost : List DsuMessage
  /-- the model's: the last step was a cycle of an SDI stall (assumption 43) -/
  sdiStalled : Bool
  /-- the model's: the bundle being evaluated (assumption 1) -/
  bundle : BundleCtx
  /-- the model's: index of the next free value (assumption 14) -/
  oracle : Nat
  deriving DecidableEq, Repr

/-- Reasons for the machine to stop. There is none: everything the manual reports is an exception with an entry the
spec describes, so it is a next state (60 R500; assumption 31). -/
inductive Fault
  deriving DecidableEq, Repr

/-- Reasons to refuse an operation. -/
inductive Refusal
  /-- the operation has no meaning yet; raised by an arm of `exec` only, and by none of this model's (safe) -/
  | notModelled (mnemonic : String)
  deriving DecidableEq, Repr

/-- The state after reset for given parameters, memory (which reset does not change), pins, the environment's events
and the messages sent so far (70 R700, R702). That a data bus error still pending is dropped is a DESIGN CHOICE (assumption
12). -/
def State.resetWith (cfg : Params) (mem : Memory) (pins : Pins) (inputs : List (List EnvEvent))
    (toHost : List DsuMessage) (oracle : Nat) : State where
  cfg := cfg
  pc := if cfg.debugEnableAtReset then cfg.debugRomBase else alignDown cfg.bootAddress
  regs := Vector.replicate 63 0#32
  branch := Vector.replicate 8 false
  psw := 0#32
  trap := {}
  mmu := {}
  brk := {}
  pm := {}
  sdi := cfg.sdi.map fun p => { count := p.countReset, timeout := p.countReset }
  intc := {}
  timers := {}
  dsu := {}
  pins := pins
  mem := mem
  dbgPending := false
  dcError := none
  idleMode := false
  inputs := inputs
  toHost := toHost
  sdiStalled := false
  bundle := {}
  oracle := oracle

/-- The machine right after reset, with the default parameters, nothing in memory and no environment (R700). -/
def State.reset : State := State.resetWith {} ⟨[]⟩ {} [] [] 0

end Sys2Proof.Machine
end

