-- ==== Sys2Proof/Machine/Memory.lean ====
section
/-! DEFINITION. Physical memory (20_memory.md rules R100 to R106): one canonical list of the bytes that are not zero,
the assembly of half-words and words in either byte order, and the range tests on physical addresses. -/

namespace Sys2Proof.Machine

/-- What a byte that nothing has written reads as (assumption 8). -/
def unlistedByte : Byte := 0#8

/-- Look a byte up in a list of cells. -/
def cellsRead : List Host.Cell → Nat → Byte
  | [], _ => unlistedByte
  | (k, v) :: rest, a => if k = a then v else cellsRead rest a

/-- Write a byte into a rising list of cells; writing what an unlisted byte reads as removes the cell. -/
def cellsWrite : List Host.Cell → Nat → Byte → List Host.Cell
  | [], a, b => if b = unlistedByte then [] else [(a, b)]
  | (k, v) :: rest, a, b =>
    if a < k then (if b = unlistedByte then (k, v) :: rest else (a, b) :: (k, v) :: rest)
    else if a = k then (if b = unlistedByte then rest else (a, b) :: rest)
    else (k, v) :: cellsWrite rest a b

/-- Every address of the list is at least `lo`, inside the address space and rising, and no cell is redundant. -/
def cellsWf : Nat → List Host.Cell → Bool
  | _, [] => true
  | lo, (k, v) :: rest => decide (lo ≤ k) && decide (k < 2 ^ 32) && v != unlistedByte && cellsWf (k + 1) rest

/-- The canonical form of memory. -/
def Memory.wf (m : Memory) : Bool := cellsWf 0 m.cells

/-- `MEM[a]`. -/
def Memory.read (m : Memory) (a : Nat) : Byte := cellsRead m.cells a

/-- `MEM[a] <- b` for a physical address `a`. -/
def Memory.write (m : Memory) (a : Nat) (b : Byte) : Memory := ⟨cellsWrite m.cells a b⟩

/-- The number of bytes of an access. -/
def Width.bytes : Width → Nat
  | .byte => 1
  | .half => 2
  | .word => 4

/-- Physical address `pa + k`, modulo 2^32. -/
def byteAddr (pa : Word) (k : Nat) : Nat := (pa + BitVec.ofNat 32 k).toNat

/-- `MEM[pa FOR n]` as an unsigned 32-bit value (20 R103). -/
def Memory.load (m : Memory) (bigEndian : Bool) (pa : Word) : Width → Word
  | .byte => (m.read (byteAddr pa 0)).setWidth 32
  | .half =>
    let b0 := m.read (byteAddr pa 0)
    let b1 := m.read (byteAddr pa 1)
    (if bigEndian then b0 ++ b1 else b1 ++ b0 : BitVec 16).setWidth 32
  | .word =>
    wordOfBytes bigEndian (m.read (byteAddr pa 0)) (m.read (byteAddr pa 1)) (m.read (byteAddr pa 2))
      (m.read (byteAddr pa 3))

/-- Byte `k` (from the least significant) of a word. -/
def wordByte (v : Word) (k : Nat) : Byte := v.extractLsb' (8 * k) 8

/-- `MEM[pa FOR n] <- v<0 FOR 8n>` (20 R103, R125). -/
def Memory.store (m : Memory) (bigEndian : Bool) (pa : Word) (w : Width) (v : Word) : Memory :=
  match w with
  | .byte => m.write (byteAddr pa 0) (wordByte v 0)
  | .half =>
    if bigEndian then (m.write (byteAddr pa 0) (wordByte v 1)).write (byteAddr pa 1) (wordByte v 0)
    else (m.write (byteAddr pa 0) (wordByte v 0)).write (byteAddr pa 1) (wordByte v 1)
  | .word =>
    if bigEndian then
      (((m.write (byteAddr pa 0) (wordByte v 3)).write (byteAddr pa 1) (wordByte v 2)).write
        (byteAddr pa 2) (wordByte v 1)).write (byteAddr pa 3) (wordByte v 0)
    else
      (((m.write (byteAddr pa 0) (wordByte v 0)).write (byteAddr pa 1) (wordByte v 1)).write
        (byteAddr pa 2) (wordByte v 2)).write (byteAddr pa 3) (wordByte v 3)

/-- `Misaligned_n(a)` (20 R102). -/
def Width.misaligned (w : Width) (a : Word) : Bool := a.toNat % w.bytes != 0

/-- The physical address lies in the 1 Mbyte peripheral block (10 R80). -/
def inPeripheralBlock (p : Params) (pa : Word) : Bool := pa.extractLsb' 20 12 == p.peripheralPins

/-- `BusReadError(pa)` outside the peripheral block (00 R8; assumption 46). -/
def busReadError (p : Params) (pa : Word) : Bool :=
  p.busErrors.any fun r => r.reads && decide (r.base ≤ pa.toNat) && decide (pa.toNat < r.base + r.size)

/-- The write counterpart of `busReadError` (92 D12). -/
def busWriteError (p : Params) (pa : Word) : Bool :=
  p.busErrors.any fun r => r.writes && decide (r.base ≤ pa.toNat) && decide (pa.toNat < r.base + r.size)

/-- Word `n` of the debug ROM: word 0 is the self-branch, later words are the image's where it is known
(10 R85, 61 R670; assumption 25). -/
def romWord (p : Params) (n : Fin 256) : Word :=
  if n = 0 then 0xB1000000#32 else (p.debugRom[n.val - 1]?).getD (Config.debugRomWord n.val)

end Sys2Proof.Machine
end

