-- ==== Sys2Proof/Machine/Operands.lean ====
section
/-! DEFINITION. Operand forms: registers, branch registers, PSW fields, the immediate with and without an extension
(30_encoding.md rule R208), effective addresses (43 R410), branch targets (44 R450, R459) and the extension
functions of 00_scope.md rule R12. -/

namespace Sys2Proof.Machine

/-! ### Extension functions -/

/-- `sext_N` of any integer (00 R12). -/
def sextInt (n : Nat) (v : Int) : Int := (BitVec.ofInt n v).toInt

/-- `zext_N` of any integer (00 R12). -/
def zextInt (n : Nat) (v : Int) : Int := ((BitVec.ofInt n v).toNat : Int)

/-- `sext_32` of a register value. -/
def sext32 (w : Word) : Int := w.toInt

/-- `zext_32` of a register value. -/
def zext32 (w : Word) : Int := (w.toNat : Int)

/-- `sext_16` of a register value. -/
def sext16 (w : Word) : Int := (w.setWidth 16).toInt

/-- `zext_16` of a register value. -/
def zext16 (w : Word) : Int := ((w.setWidth 16).toNat : Int)

/-- `sext_8` of a register value. -/
def sext8 (w : Word) : Int := (w.setWidth 8).toInt

/-- `zext_8` of a register value. -/
def zext8 (w : Word) : Int := ((w.setWidth 8).toNat : Int)

/-- `CountLeadingZeros` of a word whose bits above `n` are known to be zero (00 R12). -/
def leadingZerosBelow (w : Word) : Nat → Nat
  | 0 => 32
  | n + 1 => if w.getLsbD n then 31 - n else leadingZerosBelow w n

/-- `CountLeadingZeros` (00 R12). -/
def countLeadingZeros (w : Word) : Nat := leadingZerosBelow w 32

/-! ### Registers -/

/-- `R[r]`: R0 reads zero (10 R23). -/
def State.gpr (s : State) (r : RegNum) : Word :=
  if r = 0#6 then 0#32 else (s.regs[r.toNat - 1]?).getD 0#32

/-- `R[r] <- v`: ignored for R0 (10 R23). -/
def State.setGpr (s : State) (r : RegNum) (v : Word) : State :=
  if r = 0#6 then s else { s with regs := s.regs.setIfInBounds (r.toNat - 1) v }

/-- `B[b]` (10 R25). -/
def State.br (s : State) (b : BrNum) : Bool := s.branch.get b.toFin

/-- `B[b] <- v` (10 R25). -/
def State.setBr (s : State) (b : BrNum) (v : Bool) : State := { s with branch := s.branch.set b.toNat v b.isLt }

/-! ### PSW fields (10 R30) -/

def State.userMode (s : State) : Bool := s.psw.getLsbD 0
def State.intEnable (s : State) : Bool := s.psw.getLsbD 1
def State.tlbEnable (s : State) : Bool := s.psw.getLsbD 2
def State.tlbDynamic (s : State) : Bool := s.psw.getLsbD 3
def State.specloadMaligntrapEn (s : State) : Bool := s.psw.getLsbD 4
def State.dbreakEnable (s : State) : Bool := s.psw.getLsbD 8
def State.ibreakEnable (s : State) : Bool := s.psw.getLsbD 9
def State.debugMode (s : State) : Bool := s.psw.getLsbD 12

/-- `PswAssign(old, new)`, the PSW write filter (10 R33). -/
def pswAssign (old new : Word) : Word := (new &&& 0x31F#32) ||| (new &&& old &&& 0x1000#32)

/-! ### Immediates and addresses -/

/-- `Imm(i)` reduced to 32 bits: `IMM:ISRC2` with an extension attached, else the sign-extended field (30 R208). -/
def State.imm (s : State) (i : BitVec 9) : Word :=
  match s.bundle.ext with
  | some e => e ++ i
  | none => i.signExtend 32

/-- The effective address (43 R410). -/
def State.ea (s : State) (s1 : RegNum) (i : BitVec 9) : Word := register (sext32 (s.imm i) + sext32 (s.gpr s1))

/-- The relative target of a branch (44 R450). -/
def State.branchTarget (s : State) (t : BitVec 23) : Word := register (zext32 s.pc + t.toInt * 4)

/-- `NEXT_SEQ_PC` of a bundle of `words` syllables (44 R458). -/
def State.nextSeqPc (s : State) (words : Nat) : Word := s.pc + BitVec.ofNat 32 (4 * words)

/-- `PC <- v`: every value assigned to the PC loses its low two bits (10 R21, 44 R459; 92 D20). -/
def State.setPc (s : State) (v : Word) : State := { s with pc := alignDown v }

/-- `IsCRegSpace(a)` (20 R111). -/
def isCRegSpace (a : Word) : Bool := a.extractLsb' 16 16 == 0xFFFF#16

end Sys2Proof.Machine
end

