-- ==== Sys2Proof/Machine/Flags.lean ====
section
/-! DEFINITION. The one-bit results of the ST231. There is no flags register (10 R26): comparison results, carries and
quotient bits go to the register an operation names (41 R300; 40 R274, R275), and breakpoint comparisons to the
breakpoint logic (61 R602). -/

namespace Sys2Proof.Machine

/-! ### Comparisons: the boolean `c` of 41 R301 to R314 -/

def condEq (a b : Word) : Bool := decide (sext32 a = sext32 b)
def condNe (a b : Word) : Bool := decide (sext32 a ≠ sext32 b)
def condGe (a b : Word) : Bool := decide (sext32 a ≥ sext32 b)
def condGeu (a b : Word) : Bool := decide (zext32 a ≥ zext32 b)
def condGt (a b : Word) : Bool := decide (sext32 a > sext32 b)
def condGtu (a b : Word) : Bool := decide (zext32 a > zext32 b)
def condLe (a b : Word) : Bool := decide (sext32 a ≤ sext32 b)
def condLeu (a b : Word) : Bool := decide (zext32 a ≤ zext32 b)
def condLt (a b : Word) : Bool := decide (sext32 a < sext32 b)
def condLtu (a b : Word) : Bool := decide (zext32 a < zext32 b)
def condAndl (a b : Word) : Bool := decide (sext32 a ≠ 0) && decide (sext32 b ≠ 0)
def condNandl (a b : Word) : Bool := !(decide (sext32 a ≠ 0) && decide (sext32 b ≠ 0))
def condOrl (a b : Word) : Bool := decide (sext32 a ≠ 0) || decide (sext32 b ≠ 0)
def condNorl (a b : Word) : Bool := !(decide (sext32 a ≠ 0) || decide (sext32 b ≠ 0))

/-- `Register(c)` of a boolean: 1 or 0 (41 R300). -/
def boolWord (c : Bool) : Word := if c then 1#32 else 0#32

/-- 0 or 1 (00 R11, `INT b`). -/
def boolInt (c : Bool) : Int := if c then 1 else 0

/-! ### Carry and quotient bits -/

/-- The sum of addcg before reduction (40 R274). -/
def addcgSum (a b : Word) (c : Bool) : Int := zext32 a + zext32 b + boolInt c

/-- The carry out of addcg, `sum[32]` (40 R274). -/
def addcgCarry (a b : Word) (c : Bool) : Bool := decide (addcgSum a b c ≥ 2 ^ 32)

/-- The branch bit of divs: bit 31 of the first operand (40 R275). -/
def divsBit (a : Word) : Bool := decide (sext32 a < 0)

/-- The general result of divs (40 R275). -/
def divsValue (a b : Word) (c : Bool) : Word :=
  let temp : Word := register (sext32 a * 2) ||| boolWord c
  if sext32 a < 0 then register (zext32 temp + sext32 b) else register (zext32 temp - sext32 b)

/-! ### Breakpoint comparison -/

/-- `BreakCompare(control, lower, upper, a)` (61 R602; 92 D31). -/
def breakCompare (control : BitVec 4) (lower upper a : Word) : Bool :=
  (control.getLsbD 0 && decide (lower.toNat ≤ a.toNat) && decide (a.toNat ≤ upper.toNat))
  || (control.getLsbD 1 && (decide (a.toNat < lower.toNat) || decide (upper.toNat < a.toNat)))
  || (control.getLsbD 2 && (a == lower || a == upper))
  || (control.getLsbD 3 && (a &&& upper) == lower)

/-- `IsDBreakHit(ea)` (61 R600). -/
def State.dbreakHit (s : State) (ea : Word) : Bool :=
  s.dbreakEnable && breakCompare s.brk.dControl s.brk.dLower s.brk.dUpper ea

/-- `IBreakHit(pc)` (61 R601): bits 1:0 of the bounds are ignored. -/
def State.ibreakHit (s : State) (pc : Word) : Bool :=
  s.ibreakEnable && breakCompare s.brk.iControl (alignDown s.brk.iLower) (alignDown s.brk.iUpper) pc

end Sys2Proof.Machine
end

