-- ==== Sys2Proof/Machine/Perf.lean ====
section
/-! DEFINITION. The performance monitor (61_debug_sdi_pm.md rules R680 to R685). -/

namespace Sys2Proof.Machine

/-- The architectural events of one step (61 R681, R684). -/
structure PmTally where
  bundles : Nat := 0
  loadStores : Nat := 0
  takenBranches : Nat := 0
  notTakenBranches : Nat := 0
  exceptions : Nat := 0
  interrupts : Nat := 0
  operations : Nat := 0
  nopBundles : Nat := 0
  longImmediates : Nat := 0
  deriving DecidableEq, Repr

/-- How many effects of a list are of a kind. -/
def countKind (k : OpKind) (es : List Effect) : Nat := (es.filter fun e => e.kind == k).length

/-- The events of a committed bundle with these effects (61 R684). -/
def bundleTally (es : List Effect) : PmTally where
  bundles := 1
  loadStores := countKind .loadStore es
  takenBranches := countKind .branchTaken es
  notTakenBranches := countKind .branchNotTaken es
  operations := es.length - countKind .longImmediate es
  nopBundles := if es.all fun e => e.kind == .nop then 1 else 0
  longImmediates := countKind .longImmediate es

/-- The events of an exception entry (61 R684): an external interrupt counts as both. -/
def exceptionTally (c : Cause) : PmTally where
  exceptions := 1
  interrupts := if c = .externInt then 1 else 0

/-- By how much a counter programmed with event number `ev` advances, `free` being the part that depends on caches,
buffers and stalls (61 R681, R684; assumption 17). -/
def eventCount (t : PmTally) (free : Nat) (ev : BitVec 5) : Nat :=
  match ev.toNat with
  | 10 => t.bundles
  | 11 => t.loadStores
  | 12 => t.takenBranches
  | 13 => t.notTakenBranches
  | 14 => t.exceptions
  | 15 => t.interrupts
  | 18 => t.operations
  | 20 => t.nopBundles + free
  | 21 => t.longImmediates
  | 28 | 29 | 30 | 31 => 0
  | _ => free

/-- The counters after a step with the tally `t`; `countEvents` is false if the step's bundle stores to PM_CR
(61 R682). PM_PCLK advances by at least one (61 R683). Nothing moves while ENB = 0 (61 R680). -/
def Perf.advance (p : Perf) (t : PmTally) (countEvents : Bool) (oracle : Nat) : Perf :=
  if p.enb then
    { p with
      cnt := if countEvents then
          Vector.ofFn fun k : Fin 4 =>
            p.cnt.get k + BitVec.ofNat 32 (eventCount t (Config.microEventCount oracle k) (p.event.get k))
        else p.cnt
      pclk := p.pclk + BitVec.ofNat 32 (1 + Config.extraCycles oracle) }
  else p

/-- The value a load of PM_CR returns (10 R71): RST reads 0. -/
def Perf.crValue (p : Perf) : Word :=
  p.event.get 3 ++ p.event.get 2 ++ p.event.get 1 ++ p.event.get 0 ++ 0#9 ++ BitVec.ofBool p.idle ++ 0#1
    ++ BitVec.ofBool p.enb

/-- A store to PM_CR (61 R680). -/
def Perf.storeCr (p : Perf) (v : Word) : Perf where
  enb := v.getLsbD 0
  idle := if v.getLsbD 2 then false else p.idle
  event := #v[v.extractLsb' 12 5, v.extractLsb' 17 5, v.extractLsb' 22 5, v.extractLsb' 27 5]
  cnt := if v.getLsbD 1 then Vector.replicate 4 0#32 else p.cnt
  pclk := if v.getLsbD 1 then 0#32 else p.pclk

/-- One step's time passes: the performance monitor advances and the free values move on. -/
def State.tick (s : State) (t : PmTally) (countEvents : Bool) : State :=
  { s with pm := s.pm.advance t countEvents s.oracle, oracle := s.oracle + 1 }

end Sys2Proof.Machine
end

