-- ==== Sys2Proof/Machine/Sdi.lean ====
section
/-! DEFINITION. The streaming data interface ports (61_debug_sdi_pm.md rules R640 to R652). -/

namespace Sys2Proof.Machine

/-- The fixed properties of port `i`. -/
def State.sdiParams (s : State) (i : Fin 4) : SdiPortParams := s.cfg.sdi.get i

/-- Port `i`. -/
def State.sdiPort (s : State) (i : Fin 4) : SdiPort := s.sdi.get i

/-- Replace port `i`. -/
def State.setSdiPort (s : State) (i : Fin 4) (p : SdiPort) : State := { s with sdi := s.sdi.set i.val p i.isLt }

/-- User mode may reach SDIi_DATA and SDIi_READY (61 R641): only PRIV = 1. -/
def SdiPort.userAccess (p : SdiPort) : Bool := p.priv == 1#2

/-- RESETINPUT of port `i`, the level its device drives (61 R650). -/
def State.sdiResetInput (s : State) (i : Fin 4) : Bool := s.pins.sdiReset.get i

/-- Set the level of the reset input of port `i`. -/
def State.setSdiReset (s : State) (i : Fin 4) (level : Bool) : State :=
  { s with pins := { s.pins with sdiReset := s.pins.sdiReset.set i.val level i.isLt } }

/-- A reset bit of the channel is set: accesses to DATA and READY are implementation dependent (61 R650; 93 H14). -/
def State.sdiInReset (s : State) (i : Fin 4) : Bool := (s.sdiPort i).resetOutput || s.sdiResetInput i

/-- The number of transfers port `i` can make without a stall (61 R646). -/
def State.sdiAvailable (s : State) (i : Fin 4) : Nat :=
  if (s.sdiParams i).isInput then (s.sdiPort i).queue.length
  else (s.sdiParams i).depth - (s.sdiPort i).queue.length

/-- `InReady(i)` or `OutReady(i)` (61 R640). -/
def State.sdiIsReady (s : State) (i : Fin 4) : Bool := decide (0 < s.sdiAvailable i)

/-- The value of SDIi_READY (61 R646; assumption 18): 0, or a count from the least non-zero report up to the number of
transfers that do not stall. -/
def State.sdiReadyValue (s : State) (i : Fin 4) : Word :=
  if s.sdiInReset i then Config.sdiResetRead s.oracle
  else
    let n := Config.sdiReadyReport s.oracle % (s.sdiAvailable i + 1)
    if n < (s.sdiParams i).readyMin then 0#32 else BitVec.ofNat 32 n

/-- The value of SDIi_CONTROL (61 R651). -/
def State.sdiControlValue (s : State) (i : Fin 4) : Word :=
  let p := s.sdiPort i
  0#24 ++ BitVec.ofBool p.timeoutDisable ++ BitVec.ofBool (s.sdiParams i).isMaster ++ 0#1
    ++ BitVec.ofBool (s.sdiParams i).isInput ++ BitVec.ofBool p.resetOutput ++ BitVec.ofBool (s.sdiResetInput i) ++ p.priv

/-- A store to SDIi_CONTROL (61 R650, R651): a master that sets RESETOUTPUT empties the channel. -/
def State.sdiStoreControl (s : State) (i : Fin 4) (v : Word) : State :=
  let p := s.sdiPort i
  let requests := (s.sdiParams i).isMaster && v.getLsbD 3 && !p.resetOutput
  s.setSdiPort i
    { p with
      priv := v.extractLsb' 0 2
      resetOutput := v.getLsbD 3
      timeoutDisable := v.getLsbD 7
      queue := if requests then [] else p.queue }

/-- The removal a load of an input port's SDIi_DATA makes (61 R643). -/
def State.sdiTake (s : State) (i : Fin 4) : State :=
  let p := s.sdiPort i
  s.setSdiPort i { p with queue := p.queue.tail, timeout := p.count }

/-- The append a store to an output port's SDIi_DATA makes (61 R644). -/
def State.sdiPut (s : State) (i : Fin 4) (v : Word) : State :=
  let p := s.sdiPort i
  s.setSdiPort i { p with queue := p.queue ++ [v], timeout := p.count }

/-- The device of an input port appends a word: not in idle mode (61 R690), and not while the channel is being reset,
when it is consumed (61 R650). -/
def State.sdiDevicePush (s : State) (i : Fin 4) (v : Word) : State :=
  let p := s.sdiPort i
  if (s.sdiParams i).isInput && !s.idleMode && !s.sdiInReset i && decide (p.queue.length < (s.sdiParams i).depth) then
    s.setSdiPort i { p with queue := p.queue ++ [v] }
  else s

/-- The device of an output port removes the head (61 R640). -/
def State.sdiDevicePop (s : State) (i : Fin 4) : State :=
  let p := s.sdiPort i
  if (s.sdiParams i).isInput then s else s.setSdiPort i { p with queue := p.queue.tail }

/-- The device drives the reset input of port `i`; a rising request empties a slave's channel (61 R650). -/
def State.sdiDriveReset (s : State) (i : Fin 4) (level : Bool) : State :=
  let p := s.sdiPort i
  let requested := !(s.sdiParams i).isMaster && level && !s.sdiResetInput i
  (s.setSdiPort i { p with queue := if requested then [] else p.queue }).setSdiReset i level

/-- Every output port's channel is empty (61 R690). -/
def State.sdiOutputsEmpty (s : State) : Bool :=
  (List.finRange 4).all fun i => (s.sdiParams i).isInput || (s.sdiPort i).queue.isEmpty

/-- The address of SDIi_DATA (61 R640). -/
def sdiDataAddress (i : Fin 4) : Word := 0xFFFFE000#32 + BitVec.ofNat 32 (0x400 * i.val)

end Sys2Proof.Machine
end

