-- ==== Sys2Proof/Machine/Translate.lean ====
section
/-! DEFINITION. Address translation and protection by the UTLB (20_memory.md rules R130 to R137), the speculative
control unit (R145), and the checks of data accesses (R120, R122, R124, R127). -/

namespace Sys2Proof.Machine

/-! ### UTLB entries (10 R61 to R63) -/

def UtlbEntry.asid (e : UtlbEntry) : BitVec 8 := e.word0.extractLsb' 0 8
def UtlbEntry.shared (e : UtlbEntry) : Bool := e.word0.getLsbD 8
def UtlbEntry.protSuper (e : UtlbEntry) : BitVec 3 := e.word0.extractLsb' 9 3
def UtlbEntry.protUser (e : UtlbEntry) : BitVec 3 := e.word0.extractLsb' 12 3
def UtlbEntry.dirty (e : UtlbEntry) : Bool := e.word0.getLsbD 15
def UtlbEntry.size (e : UtlbEntry) : BitVec 3 := e.word0.extractLsb' 20 3

/-- The tag match of an entry (20 R132): SIZE 0 and the reserved sizes 4 to 7 map nothing (92 D15). -/
def UtlbEntry.tagMatches (e : UtlbEntry) (v : Word) : Bool :=
  match e.size.toNat with
  | 1 => v.extractLsb' 13 19 == e.vaddr
  | 2 => v.extractLsb' 22 10 == e.vaddr.extractLsb' 9 10
  | 3 => v.extractLsb' 28 4 == e.vaddr.extractLsb' 15 4
  | _ => false

/-- Entry `e` maps `v` in address space `asid` (20 R132). -/
def UtlbEntry.maps (e : UtlbEntry) (asid : BitVec 8) (v : Word) : Bool :=
  e.tagMatches v && (e.shared || e.asid == asid)

/-- The physical address entry `e` gives `v` (20 R133). -/
def UtlbEntry.translate (e : UtlbEntry) (v : Word) : Word :=
  match e.size.toNat with
  | 1 => e.paddr ++ v.extractLsb' 0 13
  | 2 => e.paddr.extractLsb' 9 10 ++ v.extractLsb' 0 22
  | 3 => e.paddr.extractLsb' 15 4 ++ v.extractLsb' 0 28
  | _ => v

/-- `Matches(v)`, lowest index first (20 R132). -/
def State.tlbMatches (s : State) (v : Word) : List (Fin 64) :=
  (List.finRange 64).filter fun k => (s.mmu.utlb.get k).maps s.mmu.asid v

/-- The permission field of the current mode (20 R134). -/
def State.prot (s : State) (e : UtlbEntry) : BitVec 3 := if s.userMode then e.protUser else e.protSuper

/-- How an address translates (20 R133, R135). -/
inductive Lookup
  /-- the TLB is disabled: the address is physical -/
  | direct
  /-- no entry maps the address -/
  | unmapped
  /-- exactly one entry maps it -/
  | mapped (k : Fin 64) (e : UtlbEntry)
  /-- more than one does -/
  | multiple
  deriving DecidableEq, Repr

/-- Look an address up in the TLB (20 R131, R135). -/
def State.lookup (s : State) (v : Word) : Lookup :=
  if s.tlbEnable then
    match s.tlbMatches v with
    | [] => .unmapped
    | [k] => .mapped k (s.mmu.utlb.get k)
    | _ => .multiple
  else .direct

/-- `Translate(v)`; where there is no single mapping no access is made and the value is not used (20 R133). -/
def State.translate (s : State) (v : Word) : Word :=
  match s.lookup v with
  | .mapped _ e => e.translate v
  | _ => v

/-! ### TLB predicates (20 R135) -/

def State.noTranslation (s : State) (v : Word) : Bool := s.lookup v == .unmapped
def State.multiMapping (s : State) (v : Word) : Bool := s.lookup v == .multiple

def State.execViolation (s : State) (v : Word) : Bool :=
  match s.lookup v with
  | .mapped _ e => !(s.prot e).getLsbD 0
  | _ => false

def State.readViolation (s : State) (v : Word) : Bool :=
  match s.lookup v with
  | .mapped _ e => !(s.prot e).getLsbD 1
  | _ => false

def State.writeViolation (s : State) (v : Word) : Bool :=
  match s.lookup v with
  | .mapped _ e => !(s.prot e).getLsbD 2 || !e.dirty
  | _ => false

/-! ### TLB exceptions (20 R136) -/

/-- The TLB_EXCAUSE record of an access to `v`; `permissionBit` is the bit of the permission field the access needs
(0 execute, 1 read, 2 write). -/
def State.tlbRecord (s : State) (v : Word) (permissionBit : Nat) (spec write : Bool) : TlbRecord :=
  match s.lookup v with
  | .mapped k e =>
    { cause := if (s.prot e).getLsbD permissionBit then .writeToClean else .protViolation
      spec := spec, write := write, inUtlb := true, index := BitVec.ofNat 8 k.val }
  | .multiple =>
    { cause := .multiMapping, spec := spec, write := write
      inUtlb := Config.tlbFreeInUtlb s.oracle, index := Config.tlbFreeIndex s.oracle }
  | _ =>
    { cause := .noMapping, spec := spec, write := write, inUtlb := false, index := Config.tlbFreeIndex s.oracle }

/-- The number of a TLB exception cause (10 R68). -/
def TlbCause.code : TlbCause → BitVec 2
  | .noMapping => 0#2
  | .protViolation => 1#2
  | .writeToClean => 2#2
  | .multiMapping => 3#2

/-- TLB_EXCAUSE as the record fills it (10 R68). -/
def TlbRecord.word (r : TlbRecord) : Word :=
  0#11 ++ BitVec.ofBool r.inUtlb ++ BitVec.ofBool r.write ++ BitVec.ofBool r.spec ++ r.cause.code ++ 0#8 ++ r.index

/-- DTLB for a data access to `v`. -/
def State.raiseDtlb (s : State) (v : Word) (permissionBit : Nat) (spec write : Bool) : Raised :=
  { cause := .dtlb, addr := v, tlb := some (s.tlbRecord v permissionBit spec write) }

/-- ITLB for the syllable at `v`. -/
def State.raiseItlb (s : State) (v : Word) : Raised :=
  { cause := .itlb, addr := v, tlb := some (s.tlbRecord v 0 false false) }

/-! ### Speculative control unit -/

/-- `SCUHit(pa)` (20 R145). -/
def State.scuHit (s : State) (pa : Word) : Bool :=
  (List.finRange 4).any fun k =>
    decide ((s.mmu.scuBase.get k).toNat ≤ (pa.extractLsb' 13 19).toNat)
      && decide ((pa.extractLsb' 13 19).toNat ≤ (s.mmu.scuLimit.get k).toNat)

/-! ### Checks of data accesses -/

/-- `ReadCheckMemory_n(a)` (20 R120). -/
def State.readCheck (s : State) (w : Width) (a : Word) : Option Raised :=
  if w.misaligned a then some { cause := .misalignedTrap, addr := a }
  else if s.noTranslation a || s.multiMapping a || s.readViolation a then some (s.raiseDtlb a 1 false false)
  else none

/-- `DisReadCheckMemory_n(a)` (20 R122). -/
def State.disReadCheck (s : State) (w : Width) (a : Word) : Option Raised :=
  if w.misaligned a && s.specloadMaligntrapEn then some { cause := .misalignedTrap, addr := a }
  else if s.multiMapping a || (s.tlbDynamic && s.noTranslation a) then some (s.raiseDtlb a 1 true false)
  else none

/-- `WriteCheckMemory_n(a)` (20 R124). -/
def State.writeCheck (s : State) (w : Width) (a : Word) : Option Raised :=
  if w.misaligned a then some { cause := .misalignedTrap, addr := a }
  else if s.noTranslation a || s.multiMapping a || s.writeViolation a then some (s.raiseDtlb a 2 false true)
  else none

/-- `PurgeAddressCheckMemory(a)` (20 R127, R157); nothing in control register space (92 D17). -/
def State.purgeCheck (s : State) (a : Word) : Option Raised :=
  if isCRegSpace a then none
  else if s.multiMapping a || (s.tlbDynamic && s.noTranslation a) then some (s.raiseDtlb a 1 true false)
  else none

/-- Whether a dismissible load reads memory (20 R123). -/
def State.disReadPerformed (s : State) (w : Width) (a : Word) : Bool :=
  !w.misaligned a && !s.noTranslation a && !s.readViolation a && s.scuHit (s.translate a)

end Sys2Proof.Machine
end

