-- ==== Sys2Proof/Machine/CReg.lean ====
section
/-! DEFINITION. The control registers: the map (10_state.md rule R40), the access codes (R41), the value a load
returns and what a store changes (R30 to R73; 20_memory.md rules R128, R129). -/

namespace Sys2Proof.Machine

/-- Trap, TLB and scratch registers: offset from 0xFFFF0000 and name (10 R40). -/
def cregTrapTable : List (Nat × CReg) :=
  [(0xFFF8, .psw), (0xFFF0, .savedPsw), (0xFFE8, .savedPc), (0xFFE0, .handlerPc), (0xFFD8, .excause),
   (0xFFD0, .exaddress), (0xFFC8, .version), (0xFFC0, .savedSavedPsw), (0xFFB8, .savedSavedPc),
   (0xFFB0, .peripheralBase), (0xFFA8, .scratch1), (0xFFA0, .scratch2), (0xFF98, .scratch3), (0xFF90, .scratch4),
   (0xFF88, .excauseno), (0xFF80, .tlbIndex), (0xFF78, .tlbEntry0), (0xFF70, .tlbEntry1), (0xFF68, .tlbEntry2),
   (0xFF60, .tlbEntry3), (0xFF58, .tlbExcause), (0xFF50, .tlbControl), (0xFF48, .tlbReplace), (0xFF40, .tlbAsid)]

/-- Breakpoint and partition registers, PM_CR and PM_PCLK (10 R40). -/
def cregDebugTable : List (Nat × CReg) :=
  [(0xFE80, .dbreakLower), (0xFE78, .dbreakUpper), (0xFE70, .dbreakControl), (0xFE00, .state1),
   (0xFDD0, .ibreakLower), (0xFDC8, .ibreakUpper), (0xFDC0, .ibreakControl), (0xF800, .pmCr), (0xF828, .pmPclk)]

/-- The reserved registers RESERVEDFF00 to RESERVEDFF38 and RESERVEDFE08 to RESERVEDFE40 (10 R73). -/
def cregReservedTable : List (Nat × CReg) :=
  [(0xFF00, .reserved 0), (0xFF08, .reserved 1), (0xFF10, .reserved 2), (0xFF18, .reserved 3),
   (0xFF20, .reserved 4), (0xFF28, .reserved 5), (0xFF30, .reserved 6), (0xFF38, .reserved 7),
   (0xFE08, .reserved 8), (0xFE10, .reserved 9), (0xFE18, .reserved 10), (0xFE20, .reserved 11),
   (0xFE28, .reserved 12), (0xFE30, .reserved 13), (0xFE38, .reserved 14), (0xFE40, .reserved 15)]

/-- The counters, SCU bases and limits of one index (10 R40). -/
def cregCounterEntries (k : Fin 4) : List (Nat × CReg) :=
  [(0xF808 + 8 * k.val, .pmCnt k), (0xD000 + 0x10 * k.val, .scuBase k), (0xD008 + 0x10 * k.val, .scuLimit k)]

/-- The registers of one SDI port (10 R40). -/
def cregSdiEntries (i : Fin 4) : List (Nat × CReg) :=
  [(0xE000 + 0x400 * i.val, .sdiData i), (0xE008 + 0x400 * i.val, .sdiReady i),
   (0xE010 + 0x400 * i.val, .sdiControl i), (0xE018 + 0x400 * i.val, .sdiCount i),
   (0xE020 + 0x400 * i.val, .sdiTimeout i)]

/-- Every control register: offset from 0xFFFF0000 and name (10 R40). -/
def cregTable : List (Nat × CReg) :=
  List.flatten
    [cregTrapTable, cregDebugTable, cregReservedTable, cregCounterEntries 0, cregCounterEntries 1,
     cregCounterEntries 2, cregCounterEntries 3, cregSdiEntries 0, cregSdiEntries 1, cregSdiEntries 2,
     cregSdiEntries 3]

/-- The control register at an address in control register space, if there is one at exactly that address
(`UndefinedCReg`, `CRegIndex`: 20 R128). -/
def cregAt (a : Word) : Option CReg := cregTable.lookup (a.extractLsb' 0 16).toNat

/-- Access codes (10 R41); `ROF` is carried by no register. -/
inductive Access
  | na
  | ro
  | rw
  deriving DecidableEq, Repr

/-- The supervisor access code of a register (10 R40). -/
def CReg.supervisorAccess : CReg → Access
  | .psw | .excause | .version | .peripheralBase | .reserved _ | .sdiReady _ => .ro
  | _ => .rw

/-- The user access code of a register, CF and CFRO resolved by SDIi_CONTROL.PRIV (10 R41, 61 R641). -/
def State.userAccess (s : State) : CReg → Access
  | .sdiData i => if (s.sdiPort i).userAccess then .rw else .na
  | .sdiReady i => if (s.sdiPort i).userAccess then .ro else .na
  | _ => .na

/-- The access code that applies in the current mode. -/
def State.access (s : State) (r : CReg) : Access := if s.userMode then s.userAccess r else r.supervisorAccess

/-- `ReadCheckCReg` and `WriteCheckCReg` (20 R128, R129): both modes' codes permit or forbid loads and stores alike,
an RO register's store being ignored. -/
def State.cregCheck (s : State) (a : Word) : Option Raised :=
  match cregAt a with
  | none => some { cause := .cregNoMapping, addr := a }
  | some r => if s.access r = .na then some { cause := .cregAccessViolation, addr := a } else none

/-- The value of VERSION and DSR0 (10 R58). -/
def versionWord (p : Params) : Word := p.dsuVersion ++ 0x05#8 ++ p.productId

/-- The UTLB entry TLB_INDEX selects (20 R139). -/
def State.selectedEntry (s : State) : UtlbEntry := s.mmu.utlb.get s.mmu.tlbIndex.toFin

/-- `CR[r]`, the value a word load returns (10 R30 to R73). SDIi_DATA of an input port returns the oldest word, of an
output port 0 (61 R643, R644). -/
def State.cregValue (s : State) : CReg → Word
  | .psw => s.psw
  | .savedPsw => s.trap.savedPsw
  | .savedPc => s.trap.savedPc
  | .handlerPc => s.trap.handlerPc
  | .excause => 1#32 <<< s.trap.excauseno.toNat
  | .exaddress => s.trap.exaddress
  | .version => versionWord s.cfg
  | .savedSavedPsw => s.trap.savedSavedPsw
  | .savedSavedPc => s.trap.savedSavedPc
  | .peripheralBase => s.cfg.peripheralBase
  | .scratch1 => s.trap.scratch1
  | .scratch2 => s.trap.scratch2
  | .scratch3 => s.trap.scratch3
  | .scratch4 => s.trap.scratch4
  | .excauseno => s.trap.excauseno.setWidth 32
  | .tlbIndex => s.mmu.tlbIndex.setWidth 32
  | .tlbEntry0 => s.selectedEntry.word0.setWidth 32
  | .tlbEntry1 => s.selectedEntry.vaddr.setWidth 32
  | .tlbEntry2 => s.selectedEntry.paddr.setWidth 32
  | .tlbEntry3 => 0#32
  | .tlbExcause => s.mmu.tlbExcause
  | .tlbControl => 0#32
  | .tlbReplace => 0#8 ++ s.mmu.limit ++ s.mmu.lfsr
  | .tlbAsid => s.mmu.asid.setWidth 32
  | .reserved _ => 0#32
  | .dbreakLower => s.brk.dLower
  | .dbreakUpper => s.brk.dUpper
  | .dbreakControl => s.brk.dControl.setWidth 32
  | .state1 => s.mmu.partition.setWidth 32
  | .ibreakLower => s.brk.iLower
  | .ibreakUpper => s.brk.iUpper
  | .ibreakControl => s.brk.iControl.setWidth 32
  | .pmCr => s.pm.crValue
  | .pmCnt k => s.pm.cnt.get k
  | .pmPclk => s.pm.pclk
  | .sdiData i =>
    if (s.sdiParams i).isInput then
      if s.sdiInReset i then Config.sdiResetRead s.oracle else (s.sdiPort i).queue.headD 0#32
    else if s.sdiInReset i then Config.sdiResetRead s.oracle else 0#32
  | .sdiReady i => s.sdiReadyValue i
  | .sdiControl i => s.sdiControlValue i
  | .sdiCount i => (s.sdiPort i).count
  | .sdiTimeout i => (s.sdiPort i).timeout
  | .scuBase k => (s.mmu.scuBase.get k).setWidth 32
  | .scuLimit k => (s.mmu.scuLimit.get k).setWidth 32

/-- The port a load of a register must wait for: an input port with no word, its channel not being reset
(61 R643, R648). -/
def State.loadStall (s : State) : CReg → Option (Fin 4)
  | .sdiData i =>
    if (s.sdiParams i).isInput && !s.sdiInReset i && !s.sdiIsReady i then some i else none
  | _ => none

/-- The port a store to a register must wait for: an output port with no space (61 R644, R648). -/
def State.storeStall (s : State) : CReg → Option (Fin 4)
  | .sdiData i =>
    if !(s.sdiParams i).isInput && !s.sdiInReset i && !s.sdiIsReady i then some i else none
  | _ => none

/-- The side effects of a load of a register (20 R140, 61 R645). -/
def State.loadSideEffects (s : State) : CReg → List Write
  | .tlbReplace => [.lfsrClock]
  | .sdiData i => if (s.sdiParams i).isInput && !s.sdiInReset i then [.sdiTake i] else []
  | _ => []

/-- The LFSR's next value: one place to the left, the XOR of bits 3, 12, 14 and 15 entering bit 0, which is the shift
of maximal length with that feedback (20 R140; DEDUCED, assumption 16). -/
def lfsrStep (x : BitVec 16) : BitVec 16 :=
  x.extractLsb' 0 15 ++ BitVec.ofBool (x.getLsbD 3 ^^ x.getLsbD 12 ^^ x.getLsbD 14 ^^ x.getLsbD 15)

/-- The read side effect of TLB_REPLACE (20 R140). -/
def State.clockLfsr (s : State) : State := { s with mmu := { s.mmu with lfsr := lfsrStep s.mmu.lfsr } }

/-- Replace the UTLB entry TLB_INDEX selects (20 R139). -/
def State.setSelectedEntry (s : State) (e : UtlbEntry) : State :=
  { s with mmu := { s.mmu with utlb := s.mmu.utlb.set s.mmu.tlbIndex.toNat e s.mmu.tlbIndex.isLt } }

/-- `CR[r] <- v` by a word store whose checks passed: the writable fields change, RO registers ignore it
(20 R129; 10 R42). -/
def State.storeCreg (s : State) (r : CReg) (v : Word) : State :=
  match r with
  | .psw | .excause | .version | .peripheralBase | .reserved _ | .sdiReady _ | .tlbEntry3 | .tlbControl => s
  | .savedPsw => { s with trap := { s.trap with savedPsw := v } }
  | .savedPc => { s with trap := { s.trap with savedPc := v } }
  | .handlerPc => { s with trap := { s.trap with handlerPc := v } }
  | .exaddress => { s with trap := { s.trap with exaddress := v } }
  | .savedSavedPsw => { s with trap := { s.trap with savedSavedPsw := v } }
  | .savedSavedPc => { s with trap := { s.trap with savedSavedPc := v } }
  | .scratch1 => { s with trap := { s.trap with scratch1 := v } }
  | .scratch2 => { s with trap := { s.trap with scratch2 := v } }
  | .scratch3 => { s with trap := { s.trap with scratch3 := v } }
  | .scratch4 => { s with trap := { s.trap with scratch4 := v } }
  | .excauseno => { s with trap := { s.trap with excauseno := v.extractLsb' 0 5 } }
  | .tlbIndex =>
    if v.extractLsb' 6 2 = 0#2 then { s with mmu := { s.mmu with tlbIndex := v.extractLsb' 0 6 } } else s
  | .tlbEntry0 => s.setSelectedEntry { s.selectedEntry with word0 := v.extractLsb' 0 25 }
  | .tlbEntry1 => s.setSelectedEntry { s.selectedEntry with vaddr := v.extractLsb' 0 19 }
  | .tlbEntry2 => s.setSelectedEntry { s.selectedEntry with paddr := v.extractLsb' 0 19 }
  | .tlbExcause => { s with mmu := { s.mmu with tlbExcause := v &&& 0x001F00FF#32 } }
  | .tlbReplace => { s with mmu := { s.mmu with lfsr := v.extractLsb' 0 16, limit := v.extractLsb' 16 8 } }
  | .tlbAsid => { s with mmu := { s.mmu with asid := v.extractLsb' 0 8 } }
  | .dbreakLower => { s with brk := { s.brk with dLower := v } }
  | .dbreakUpper => { s with brk := { s.brk with dUpper := v } }
  | .dbreakControl => { s with brk := { s.brk with dControl := v.extractLsb' 0 4 } }
  | .state1 => { s with mmu := { s.mmu with partition := v.extractLsb' 0 2 } }
  | .ibreakLower => { s with brk := { s.brk with iLower := v } }
  | .ibreakUpper => { s with brk := { s.brk with iUpper := v } }
  | .ibreakControl => { s with brk := { s.brk with iControl := v.extractLsb' 0 4 } }
  | .pmCr => { s with pm := s.pm.storeCr v }
  | .pmCnt k => { s with pm := { s.pm with cnt := s.pm.cnt.set k.val v k.isLt } }
  | .pmPclk => { s with pm := { s.pm with pclk := v } }
  | .sdiData i =>
    if (s.sdiParams i).isInput then s
    else if s.sdiInReset i then
      if Config.sdiResetAccepts s.oracle && s.sdiIsReady i then
        s.setSdiPort i { s.sdiPort i with queue := (s.sdiPort i).queue ++ [v] }
      else s
    else s.sdiPut i v
  | .sdiControl i => s.sdiStoreControl i v
  | .sdiCount i => s.setSdiPort i { s.sdiPort i with count := v }
  | .sdiTimeout i => s.setSdiPort i { s.sdiPort i with timeout := v }
  | .scuBase k => { s with mmu := { s.mmu with scuBase := s.mmu.scuBase.set k.val (v.extractLsb' 0 19) k.isLt } }
  | .scuLimit k => { s with mmu := { s.mmu with scuLimit := s.mmu.scuLimit.set k.val (v.extractLsb' 0 19) k.isLt } }

end Sys2Proof.Machine
end

