-- ==== Sys2Proof/Machine/Peripheral.lean ====
section
/-! DEFINITION. The peripheral block: its address map (10_state.md rules R80 to R85; 20_memory.md rule R177), the
interrupt controller (60_exceptions.md rules R540 to R543), the timers (R545 to R547) and the debug support unit
registers (61_debug_sdi_pm.md rules R661 to R668). -/

namespace Sys2Proof.Machine

/-- Offsets from INTCR_BASE (10 R81, R82). -/
def intcrTable : List (Nat × PeriphReg) :=
  [(0x000, .intPending 0), (0x008, .intPending 1), (0x010, .intMask 0), (0x018, .intMask 1),
   (0x020, .intTest 0), (0x028, .intTest 1), (0x030, .intClr 0), (0x038, .intClr 1),
   (0x040, .intSet 0), (0x048, .intSet 1),
   (0x050, .intReserved), (0x058, .intReserved), (0x060, .intReserved), (0x068, .intReserved),
   (0x070, .intReserved), (0x078, .intReserved), (0x080, .intReserved), (0x088, .intReserved),
   (0x090, .intReserved), (0x098, .intReserved), (0x100, .intReserved),
   (0x108, .intMaskClr 0), (0x110, .intMaskClr 1), (0x118, .intMaskSet 0), (0x120, .intMaskSet 1),
   (0x200, .timeConst 0), (0x208, .timeCount 0), (0x210, .timeControl 0),
   (0x218, .timeConst 1), (0x220, .timeCount 1), (0x228, .timeControl 1),
   (0x230, .timeConst 2), (0x238, .timeCount 2), (0x240, .timeControl 2), (0x248, .timeDivide)]

/-- The register or debug ROM word at a word address of the peripheral block, if there is one (20 R177). -/
def periphAt (p : Params) (pa : Word) : Option PeriphReg :=
  let intOffset := (pa - p.intcrBase).toNat
  let dsuOffset := (pa - p.dsuBase).toNat
  let romOffset := (pa - p.debugRomBase).toNat
  if romOffset < 0x400 then
    if romOffset % 4 = 0 then some (.rom (Fin.ofNat 256 (romOffset / 4))) else none
  else if dsuOffset < 0x100 then
    if dsuOffset % 8 = 0 then some (.dsr (Fin.ofNat 32 (dsuOffset / 8))) else none
  else intcrTable.lookup intOffset

/-! ### Interrupt controller -/

/-- `TimerInti` (60 R547). -/
def Timer.interrupt (t : Timer) : Bool := t.status && t.intEnable

/-- The interrupt lines 31:0: timers on bits 2:0 (60 R541). -/
def State.linesLow (s : State) : Word :=
  s.pins.irqLow.extractLsb' 3 29 ++ BitVec.ofBool (s.timers.timer.get 2).interrupt
    ++ BitVec.ofBool (s.timers.timer.get 1).interrupt ++ BitVec.ofBool (s.timers.timer.get 0).interrupt

/-- `INTPENDINGk` (60 R541): the lines ORed with INTTEST. -/
def State.intPending (s : State) (k : Fin 2) : Word :=
  (if k = 0 then s.linesLow else s.pins.irqHigh) ||| s.intc.test.get k

/-- `InterruptLine` (60 R540). -/
def State.interruptLine (s : State) : Bool :=
  (s.intPending 0 &&& s.intc.mask.get 0) != 0#32 || (s.intPending 1 &&& s.intc.mask.get 1) != 0#32
    || s.pins.irqMaster

/-- EXTERN_INT is accepted (60 R540). -/
def State.interruptAccepted (s : State) : Bool := s.intEnable && s.interruptLine

/-! ### Timers -/

/-- One tick of one timer (60 R546). -/
def Timer.tick (t : Timer) : Timer :=
  if t.enable then
    if t.count = 0#32 then { t with count := t.const, status := true } else { t with count := t.count - 1#32 }
  else t

/-- One bus clock cycle (60 R545): every DIVIDE + 1 cycles the three timers tick. -/
def State.busClock (s : State) : State :=
  if s.timers.presc ≥ s.timers.divide.toNat then
    { s with timers := { s.timers with presc := 0, timer := s.timers.timer.map Timer.tick } }
  else { s with timers := { s.timers with presc := s.timers.presc + 1 } }

/-- Replace timer `i`. -/
def State.setTimer (s : State) (i : Fin 3) (t : Timer) : State :=
  { s with timers := { s.timers with timer := s.timers.timer.set i.val t i.isLt } }

/-- The value of TIMECONTROLi (60 R547). -/
def Timer.controlValue (t : Timer) : Word :=
  0#29 ++ BitVec.ofBool t.status ++ BitVec.ofBool t.intEnable ++ BitVec.ofBool t.enable

/-- A store to TIMECONTROLi (60 R547): writing 1 to STATUS clears it. -/
def Timer.storeControl (t : Timer) (v : Word) : Timer :=
  { t with enable := v.getLsbD 0, intEnable := v.getLsbD 1, status := if v.getLsbD 2 then false else t.status }

/-! ### Debug support unit -/

/-- The value of DSR1 (61 R667). Bit 4 is reserved in the TAPLink variant. -/
def State.dsr1Value (s : State) : Word :=
  let ackBit := s.cfg.debugVariant == .jtag && s.dsu.eventAckPending
  s.dsu.swFlags ++ 0#7 ++ BitVec.ofBool s.dsu.triggerEnable ++ BitVec.ofBool s.dsu.triggerOut
    ++ BitVec.ofBool s.pins.triggerIn ++ BitVec.ofBool s.dsu.outputPending ++ BitVec.ofBool ackBit
    ++ BitVec.ofBool s.cfg.bigEndian ++ BitVec.ofBool s.dsu.userWrite ++ BitVec.ofBool s.dsu.supWrite
    ++ BitVec.ofBool s.debugMode

/-- The value of DSRn, from the core and from the host alike (61 R661). -/
def State.dsrValue (s : State) (n : Fin 32) : Word :=
  if n = 0 then versionWord s.cfg
  else if n = 1 then s.dsr1Value
  else if n = 2 then s.dsu.dsr2
  else (s.dsu.general[n.val - 3]?).getD 0#32

/-- Writing the RW fields of DSR1 (61 R667; 90 C38). -/
def Dsu.storeStatus (d : Dsu) (v : Word) : Dsu :=
  { d with
    supWrite := v.getLsbD 1
    userWrite := v.getLsbD 2
    triggerOut := v.getLsbD 7
    triggerEnable := v.getLsbD 8
    swFlags := v.extractLsb' 16 16 }

/-- The data field of DSR2 (61 R668). -/
def dsr2Data (variant : DebugVariant) (v : Word) : Word :=
  match variant with
  | .tapLink => (v.extractLsb' 0 8).setWidth 32
  | .jtag => v

/-- A store by the core to DSR2 (61 R668). -/
def Dsu.storeOutput (d : Dsu) (variant : DebugVariant) (v : Word) : Dsu :=
  match variant with
  | .tapLink =>
    { d with
      dsr2 := dsr2Data .tapLink v
      linkByte := if d.outputPending then d.linkByte else v.extractLsb' 0 8
      outputPending := true }
  | .jtag => { d with dsr2 := v, outputPending := !d.eventAckPending }

/-- Writing DSR3 to DSR31 (10 R84). -/
def Dsu.storeGeneral (d : Dsu) (n : Nat) (v : Word) : Dsu :=
  { d with general := d.general.setIfInBounds (n - 3) v }

/-- Whether a store by the core to a DSU register takes effect in the current mode (61 R667; 92 D34). -/
def State.dsuWriteEnabled (s : State) : Bool := if s.userMode then s.dsu.userWrite else s.dsu.supWrite

/-- A store by the core to DSRn (61 R667, R668). -/
def State.storeDsr (s : State) (n : Fin 32) (v : Word) : State :=
  if s.dsuWriteEnabled then
    if n = 0 then s
    else if n = 1 then { s with dsu := s.dsu.storeStatus v }
    else if n = 2 then { s with dsu := s.dsu.storeOutput s.cfg.debugVariant v }
    else { s with dsu := s.dsu.storeGeneral n.val v }
  else s

/-- A poke by the host to DSRn: never gated, and DSR2 takes the value without being sent (61 R661, R673;
assumption 26). -/
def State.pokeDsr (s : State) (n : Fin 32) (v : Word) : State :=
  if n = 0 then s
  else if n = 1 then { s with dsu := s.dsu.storeStatus v }
  else if n = 2 then { s with dsu := { s.dsu with dsr2 := dsr2Data s.cfg.debugVariant v } }
  else { s with dsu := s.dsu.storeGeneral n.val v }

/-! ### Loads and stores -/

/-- The value of a word load from the peripheral block (10 R81 to R85; 92 D25). -/
def State.periphValue (s : State) : PeriphReg → Word
  | .intPending k => s.intPending k
  | .intMask k => s.intc.mask.get k
  | .intTest k => s.intc.test.get k
  | .intClr _ | .intSet _ | .intReserved | .intMaskClr _ | .intMaskSet _ => 0#32
  | .timeConst i => (s.timers.timer.get i).const
  | .timeCount i => (s.timers.timer.get i).count
  | .timeControl i => (s.timers.timer.get i).controlValue
  | .timeDivide => s.timers.divide.setWidth 32
  | .dsr n => s.dsrValue n
  | .rom n => romWord s.cfg n

/-- Replace INTMASKk. -/
def State.setIntMask (s : State) (k : Fin 2) (v : Word) : State :=
  { s with intc := { s.intc with mask := s.intc.mask.set k.val v k.isLt } }

/-- Replace INTTESTk. -/
def State.setIntTest (s : State) (k : Fin 2) (v : Word) : State :=
  { s with intc := { s.intc with test := s.intc.test.set k.val v k.isLt } }

/-- A word store to the peripheral block (60 R542, R545 to R547; 10 R83, R85). -/
def State.storePeriph (s : State) (r : PeriphReg) (v : Word) : State :=
  match r with
  | .intPending _ | .intReserved | .rom _ => s
  | .intMask k => s.setIntMask k v
  | .intMaskSet k => s.setIntMask k (s.intc.mask.get k ||| v)
  | .intMaskClr k => s.setIntMask k (s.intc.mask.get k &&& ~~~v)
  | .intTest k => s.setIntTest k v
  | .intSet k => s.setIntTest k (s.intc.test.get k ||| v)
  | .intClr k => s.setIntTest k (s.intc.test.get k &&& ~~~v)
  | .timeConst i => s.setTimer i { s.timers.timer.get i with const := v }
  | .timeCount i => s.setTimer i { s.timers.timer.get i with count := v }
  | .timeControl i => s.setTimer i ((s.timers.timer.get i).storeControl v)
  | .timeDivide => { s with timers := { s.timers with divide := v.extractLsb' 0 16, presc := 0 } }
  | .dsr n => s.storeDsr n v

end Sys2Proof.Machine
end

