-- ==== Sys2Proof/Machine/Ops.lean ====
section
/-! DEFINITION. The shared operations of the machine: bus accesses, the assignments of a commit phase, taking an
exception and returning from one, entering the debug handler, and committing a bundle (60_exceptions.md rules R505 to
R511; 61 R610, R648; 70_reset_and_hazards.md rule R720). -/

namespace Sys2Proof.Machine

/-- What every meaning and the step answer. -/
abbrev Answer := Host.Outcome State Fault Refusal

/-! ### Bus accesses -/

/-- A read of physical memory or of the peripheral block; `none` is a bus error (20 R121, R177; assumption 35). -/
def State.busRead (s : State) (w : Width) (pa : Word) : Option Word :=
  if inPeripheralBlock s.cfg pa then
    if w = .word then (periphAt s.cfg pa).map s.periphValue else none
  else if busReadError s.cfg pa then none
  else some (s.mem.load s.cfg.bigEndian pa w)

/-- The assignments of a load of `w` into `d`: the value passed through `extend`, or a free value and a bus error
(20 R121, R176). -/
def State.memLoadWrites (s : State) (w : Width) (extend : Word → Word) (d : RegNum) (pa : Word) : List Write :=
  match s.busRead w pa with
  | some v => [.gpr d (extend v)]
  | none => [.gpr d (Config.failedLoadWord s.oracle), .busError]

/-- The assignments of a store of `v` (20 R125, R176, R177). -/
def State.memStoreWrites (s : State) (w : Width) (pa v : Word) : List Write :=
  if inPeripheralBlock s.cfg pa then
    if w = .word then
      match periphAt s.cfg pa with
      | some r => [.periph r v]
      | none => [.busError]
    else [.busError]
  else if busWriteError s.cfg pa then
    if Config.failedStoreLands s.oracle then [.mem pa w v, .busError] else [.busError]
  else [.mem pa w v]

/-- A D-side bus error becomes pending; one that is already pending stays (20 R176; assumption 12). -/
def State.postBusError (s : State) : State :=
  match s.dcError with
  | some _ => s
  | none => { s with dcError := some (Config.busErrorDelay s.oracle) }

/-! ### Traps -/

/-- The number written to EXCAUSENO (60 R501); the smaller number has priority (60 R520). -/
def Cause.number : Cause → Nat
  | .stbusIcError => 0
  | .stbusDcError => 1
  | .externInt => 2
  | .ibreak => 3
  | .itlb => 4
  | .sbreak => 5
  | .illInst => 6
  | .syscall => 7
  | .dbreak => 8
  | .misalignedTrap => 9
  | .cregNoMapping => 10
  | .cregAccessViolation => 11
  | .dtlb => 12
  | .sdiTimeout => 14

/-- `HighestPriority()` (60 R520): the first of those with the smallest number. -/
def highestPriority : List Raised → Option Raised
  | [] => none
  | r :: rest =>
    match highestPriority rest with
    | some q => if q.cause.number < r.cause.number then some q else some r
    | none => some r

/-- `ExceptAddress(cause)` (60 R510): the value thrown for the causes of data and instruction addresses, else 0. -/
def Raised.exceptAddress (r : Raised) : Word :=
  match r.cause with
  | .dbreak | .misalignedTrap | .cregNoMapping | .cregAccessViolation | .dtlb | .itlb | .sdiTimeout => r.addr
  | _ => 0#32

/-- The PSW after exception entry: USER_MODE, INT_ENABLE, IBREAK_ENABLE and DBREAK_ENABLE cleared (60 R506). -/
def pswOnException (psw : Word) : Word := psw &&& ~~~0x303#32

/-- The PSW after debug interrupt entry (61 R610). -/
def pswOnDebug (psw : Word) : Word := (psw &&& ~~~0x307#32) ||| 0x1000#32

/-- DEBUG_HANDLER_PC (61 R610; 92 D23). -/
def debugHandlerPc (p : Params) : Word := p.peripheralBase + 0x4004#32

/-- The pending D-side bus error after an exception entry: taken, or dropped when STBUS_IC_ERROR wins over it
(60 R520; assumption 12). -/
def dcErrorAfter (c : Cause) (dcError : Option Nat) : Option Nat :=
  if c = .stbusDcError then none
  else if c = .stbusIcError ∧ dcError = some 0 then none
  else dcError

/-- Exception entry, `InitiateExceptionHandler()` (60 R506, R507): the trap point is the bundle at PC, none of which
is committed. -/
def State.takeException (s : State) (r : Raised) : State :=
  let t := s.tick (exceptionTally r.cause) true
  { t with
    trap :=
      { s.trap with
        excauseno := BitVec.ofNat 5 r.cause.number
        exaddress := r.exceptAddress
        savedPsw := s.psw
        savedPc := s.pc }
    mmu :=
      match r.tlb with
      | some record => { s.mmu with tlbExcause := record.word }
      | none => s.mmu
    psw := pswOnException s.psw
    pc := alignDown s.trap.handlerPc
    dcError := dcErrorAfter r.cause s.dcError
    idleMode := false
    sdiStalled := false
    bundle := {} }

/-- The state updates of rfi (44 R460, 60 R508): every right-hand side is the value before. That this is the new value
also when fewer than four bundles lie between a write of the saved registers or of the PSW and the rfi, a value R460
leaves undefined, is a DESIGN CHOICE (assumption 22). -/
def State.returnFromException (s : State) : State :=
  { s with
    pc := alignDown s.trap.savedPc
    psw := pswAssign s.psw s.trap.savedPsw
    trap := { s.trap with savedPc := s.trap.savedSavedPc, savedPsw := s.trap.savedSavedPsw } }

/-- Debug interrupt entry, `InitiateDebugIntHandler()` (61 R610). -/
def State.enterDebug (s : State) : State :=
  let t := s.tick { exceptions := 1 } true
  { t with
    trap :=
      { s.trap with
        savedSavedPsw := s.trap.savedPsw
        savedSavedPc := s.trap.savedPc
        savedPsw := s.psw
        savedPc := s.pc }
    psw := pswOnDebug s.psw
    pc := debugHandlerPc s.cfg
    dbgPending := false
    idleMode := false
    sdiStalled := false
    bundle := {} }

/-! ### The commit point -/

/-- Perform one assignment. -/
def applyWrite (s : State) : Write → State
  | .gpr r v => s.setGpr r v
  | .br b v => s.setBr b v
  | .pc v => s.setPc v
  | .psw v => { s with psw := v }
  | .mem pa w v => { s with mem := s.mem.store s.cfg.bigEndian pa w v }
  | .creg r v => s.storeCreg r v
  | .periph r v => s.storePeriph r v
  | .lfsrClock => s.clockLfsr
  | .sdiTake i => s.sdiTake i
  | .busError => s.postBusError
  | .returnFromException => s.returnFromException
  | .enterIdle => { s with pm := { s.pm with idle := true }, idleMode := true }

/-- The assignment is a store to PM_CR, whose bundle's events are not counted (61 R682). -/
def Write.storesPmCr : Write → Bool
  | .creg .pmCr _ => true
  | _ => false

/-- The assignments of a bundle, in syllable order (70 R721: the order is immaterial in a legal bundle). -/
def bundleWrites (es : List Effect) : List Write := es.flatMap fun e => e.writes

/-- The state at the commit point before the assignments: the events are counted, the PC moves past the bundle
(44 R458), the model's own fields are as between bundles. -/
def State.advance (s : State) (es : List Effect) : State :=
  let t := s.tick (bundleTally es) (!(bundleWrites es).any Write.storesPmCr)
  { t with
    pc := alignDown (s.nextSeqPc s.bundle.words)
    idleMode := false
    sdiStalled := false
    bundle := {} }

/-- Commit every operation of a bundle (70 R720): each value was computed from the state before the bundle. -/
def State.retire (s : State) (es : List Effect) : State := (bundleWrites es).foldl applyWrite (s.advance es)

/-- One cycle of an SDI stall on port `i` that is not ready (61 R648): the timeout counts down, or ends in
SDI_TIMEOUT. -/
def State.stallCycle (s : State) (i : Fin 4) : State :=
  let p := s.sdiPort i
  if !p.timeoutDisable && p.timeout == 0#32 then
    s.takeException { cause := .sdiTimeout, addr := sdiDataAddress i }
  else
    let q := if p.timeoutDisable then p else { p with timeout := p.timeout - 1#32 }
    { (s.setSdiPort i q).tick {} true with sdiStalled := true, idleMode := false, bundle := {} }

/-- The end of a bundle whose operations had these effects (60 R505, R520; 70 R720): the exception of highest
priority if any was thrown, else a stalled cycle if an SDI port is not ready, else the commit. -/
def State.finishBundle (s : State) (es : List Effect) : State :=
  match highestPriority (es.filterMap fun e => e.raised) with
  | some r => s.takeException r
  | none =>
    match es.findSome? fun e => e.stall with
    | some i => s.stallCycle i
    | none => s.retire es

/-- An operation has had its pre-commit phase, with this effect: the last operation of a bundle finishes it, another
one waits for the rest (assumption 1). -/
def issue (e : Effect) (s : State) : Answer :=
  .next
    (if s.bundle.toIssue = 0 then s.finishBundle (s.bundle.pending ++ [e])
    else
      { s with
        bundle :=
          { s.bundle with
            toIssue := s.bundle.toIssue - 1
            ext := none
            pending := s.bundle.pending ++ [e] } })

end Sys2Proof.Machine
end

