-- ==== Sys2Proof/Machine/Integer.lean ====
section
/-! DEFINITION. Integer arithmetic, shifts, bitwise operations, minimum and maximum, monadic operations, and the carry
operations (40_integer.md). In every value function `a` is the first source and `b` the second. -/

namespace Sys2Proof.Machine

/-- The effect of an operation that writes one general register (40 R250). -/
def gprEffect (d : RegNum) (v : Word) : Effect := { writes := [.gpr d v] }

/-- The effect of an operation that writes a general and a branch register (40 R274, R275). -/
def gprBrEffect (d : RegNum) (v : Word) (b : BrNum) (c : Bool) : Effect := { writes := [.gpr d v, .br b c] }

/-- add (40 R251). -/
def addValue (a b : Word) : Word := register (sext32 a + sext32 b)

/-- sub (40 R252). -/
def subValue (a b : Word) : Word := register (sext32 b - sext32 a)

/-- shl (40 R253). -/
def shlValue (a b : Word) : Word := if zext8 b > 31 then 0#32 else register (sext32 a * 2 ^ (zext8 b).toNat)

/-- shr (40 R254). -/
def shrValue (a b : Word) : Word := register (sext32 a >>> (zext8 b).toNat)

/-- shru (40 R255). -/
def shruValue (a b : Word) : Word := register (zext32 a >>> (zext8 b).toNat)

/-- sh1add (40 R256). -/
def sh1addValue (a b : Word) : Word := register (sext32 a * 2 + sext32 b)

/-- sh2add (40 R257). -/
def sh2addValue (a b : Word) : Word := register (sext32 a * 4 + sext32 b)

/-- sh3add (40 R258). -/
def sh3addValue (a b : Word) : Word := register (sext32 a * 8 + sext32 b)

/-- sh4add (40 R259). -/
def sh4addValue (a b : Word) : Word := register (sext32 a * 16 + sext32 b)

/-- and (40 R260). -/
def andValue (a b : Word) : Word := a &&& b

/-- andc (40 R261). -/
def andcValue (a b : Word) : Word := ~~~a &&& b

/-- or (40 R262). -/
def orValue (a b : Word) : Word := a ||| b

/-- orc (40 R263). -/
def orcValue (a b : Word) : Word := ~~~a ||| b

/-- xor (40 R264). -/
def xorValue (a b : Word) : Word := a ^^^ b

/-- max (40 R265). -/
def maxValue (a b : Word) : Word := register (if sext32 a > sext32 b then sext32 a else sext32 b)

/-- maxu (40 R266). -/
def maxuValue (a b : Word) : Word := register (if zext32 a > zext32 b then zext32 a else zext32 b)

/-- min (40 R267). -/
def minValue (a b : Word) : Word := register (if sext32 a < sext32 b then sext32 a else sext32 b)

/-- minu (40 R268). -/
def minuValue (a b : Word) : Word := register (if zext32 a < zext32 b then zext32 a else zext32 b)

/-- sxtb (40 R269). -/
def sxtbValue (a : Word) : Word := register (sext8 a)

/-- sxth (40 R270). -/
def sxthValue (a : Word) : Word := register (sext16 a)

/-- bswap (40 R271). -/
def bswapValue (a : Word) : Word := a.extractLsb' 0 8 ++ a.extractLsb' 8 8 ++ a.extractLsb' 16 8 ++ a.extractLsb' 24 8

/-- zxth (40 R272). -/
def zxthValue (a : Word) : Word := register (zext16 a)

/-- clz (40 R273). -/
def clzValue (a : Word) : Word := BitVec.ofNat 32 (countLeadingZeros a)

/-- addcg: the general result (40 R274). -/
def addcgValue (a b : Word) (c : Bool) : Word := register (addcgSum a b c)

/-- add, register form (R251); with three times R0 it is the nop macro (30 R231). -/
def execAddR (d : RegNum) (s1 : RegNum) (s2 : RegNum) (s : State) : Answer :=
  issue
    { kind := if d = 0#6 ∧ s1 = 0#6 ∧ s2 = 0#6 then .nop else .plain
      writes := [.gpr d (addValue (s.gpr s1) (s.gpr s2))] } s

/-- add, immediate form (R251). -/
def execAddI (d : RegNum) (s1 : RegNum) (i : BitVec 9) (s : State) : Answer :=
  issue (gprEffect d (addValue (s.gpr s1) (s.imm i))) s

/-- sub, register form (R252). -/
def execSubR (d : RegNum) (s1 : RegNum) (s2 : RegNum) (s : State) : Answer :=
  issue (gprEffect d (subValue (s.gpr s1) (s.gpr s2))) s

/-- sub, immediate form (R252). -/
def execSubI (d : RegNum) (s1 : RegNum) (i : BitVec 9) (s : State) : Answer :=
  issue (gprEffect d (subValue (s.gpr s1) (s.imm i))) s

/-- shl, register form (R253). -/
def execShlR (d : RegNum) (s1 : RegNum) (s2 : RegNum) (s : State) : Answer :=
  issue (gprEffect d (shlValue (s.gpr s1) (s.gpr s2))) s

/-- shl, immediate form (R253). -/
def execShlI (d : RegNum) (s1 : RegNum) (i : BitVec 9) (s : State) : Answer :=
  issue (gprEffect d (shlValue (s.gpr s1) (s.imm i))) s

/-- shr, register form (R254). -/
def execShrR (d : RegNum) (s1 : RegNum) (s2 : RegNum) (s : State) : Answer :=
  issue (gprEffect d (shrValue (s.gpr s1) (s.gpr s2))) s

/-- shr, immediate form (R254). -/
def execShrI (d : RegNum) (s1 : RegNum) (i : BitVec 9) (s : State) : Answer :=
  issue (gprEffect d (shrValue (s.gpr s1) (s.imm i))) s

/-- shru, register form (R255). -/
def execShruR (d : RegNum) (s1 : RegNum) (s2 : RegNum) (s : State) : Answer :=
  issue (gprEffect d (shruValue (s.gpr s1) (s.gpr s2))) s

/-- shru, immediate form (R255). -/
def execShruI (d : RegNum) (s1 : RegNum) (i : BitVec 9) (s : State) : Answer :=
  issue (gprEffect d (shruValue (s.gpr s1) (s.imm i))) s

/-- sh1add, register form (R256). -/
def execSh1addR (d : RegNum) (s1 : RegNum) (s2 : RegNum) (s : State) : Answer :=
  issue (gprEffect d (sh1addValue (s.gpr s1) (s.gpr s2))) s

/-- sh1add, immediate form (R256). -/
def execSh1addI (d : RegNum) (s1 : RegNum) (i : BitVec 9) (s : State) : Answer :=
  issue (gprEffect d (sh1addValue (s.gpr s1) (s.imm i))) s

/-- sh2add, register form (R257). -/
def execSh2addR (d : RegNum) (s1 : RegNum) (s2 : RegNum) (s : State) : Answer :=
  issue (gprEffect d (sh2addValue (s.gpr s1) (s.gpr s2))) s

/-- sh2add, immediate form (R257). -/
def execSh2addI (d : RegNum) (s1 : RegNum) (i : BitVec 9) (s : State) : Answer :=
  issue (gprEffect d (sh2addValue (s.gpr s1) (s.imm i))) s

/-- sh3add, register form (R258). -/
def execSh3addR (d : RegNum) (s1 : RegNum) (s2 : RegNum) (s : State) : Answer :=
  issue (gprEffect d (sh3addValue (s.gpr s1) (s.gpr s2))) s

/-- sh3add, immediate form (R258). -/
def execSh3addI (d : RegNum) (s1 : RegNum) (i : BitVec 9) (s : State) : Answer :=
  issue (gprEffect d (sh3addValue (s.gpr s1) (s.imm i))) s

/-- sh4add, register form (R259). -/
def execSh4addR (d : RegNum) (s1 : RegNum) (s2 : RegNum) (s : State) : Answer :=
  issue (gprEffect d (sh4addValue (s.gpr s1) (s.gpr s2))) s

/-- sh4add, immediate form (R259). -/
def execSh4addI (d : RegNum) (s1 : RegNum) (i : BitVec 9) (s : State) : Answer :=
  issue (gprEffect d (sh4addValue (s.gpr s1) (s.imm i))) s

/-- and, register form (R260). -/
def execAndR (d : RegNum) (s1 : RegNum) (s2 : RegNum) (s : State) : Answer :=
  issue (gprEffect d (andValue (s.gpr s1) (s.gpr s2))) s

/-- and, immediate form (R260). -/
def execAndI (d : RegNum) (s1 : RegNum) (i : BitVec 9) (s : State) : Answer :=
  issue (gprEffect d (andValue (s.gpr s1) (s.imm i))) s

/-- andc, register form (R261). -/
def execAndcR (d : RegNum) (s1 : RegNum) (s2 : RegNum) (s : State) : Answer :=
  issue (gprEffect d (andcValue (s.gpr s1) (s.gpr s2))) s

/-- andc, immediate form (R261). -/
def execAndcI (d : RegNum) (s1 : RegNum) (i : BitVec 9) (s : State) : Answer :=
  issue (gprEffect d (andcValue (s.gpr s1) (s.imm i))) s

/-- or, register form (R262). -/
def execOrR (d : RegNum) (s1 : RegNum) (s2 : RegNum) (s : State) : Answer :=
  issue (gprEffect d (orValue (s.gpr s1) (s.gpr s2))) s

/-- or, immediate form (R262). -/
def execOrI (d : RegNum) (s1 : RegNum) (i : BitVec 9) (s : State) : Answer :=
  issue (gprEffect d (orValue (s.gpr s1) (s.imm i))) s

/-- orc, register form (R263). -/
def execOrcR (d : RegNum) (s1 : RegNum) (s2 : RegNum) (s : State) : Answer :=
  issue (gprEffect d (orcValue (s.gpr s1) (s.gpr s2))) s

/-- orc, immediate form (R263). -/
def execOrcI (d : RegNum) (s1 : RegNum) (i : BitVec 9) (s : State) : Answer :=
  issue (gprEffect d (orcValue (s.gpr s1) (s.imm i))) s

/-- xor, register form (R264). -/
def execXorR (d : RegNum) (s1 : RegNum) (s2 : RegNum) (s : State) : Answer :=
  issue (gprEffect d (xorValue (s.gpr s1) (s.gpr s2))) s

/-- xor, immediate form (R264). -/
def execXorI (d : RegNum) (s1 : RegNum) (i : BitVec 9) (s : State) : Answer :=
  issue (gprEffect d (xorValue (s.gpr s1) (s.imm i))) s

/-- max, register form (R265). -/
def execMaxR (d : RegNum) (s1 : RegNum) (s2 : RegNum) (s : State) : Answer :=
  issue (gprEffect d (maxValue (s.gpr s1) (s.gpr s2))) s

/-- max, immediate form (R265). -/
def execMaxI (d : RegNum) (s1 : RegNum) (i : BitVec 9) (s : State) : Answer :=
  issue (gprEffect d (maxValue (s.gpr s1) (s.imm i))) s

/-- maxu, register form (R266). -/
def execMaxuR (d : RegNum) (s1 : RegNum) (s2 : RegNum) (s : State) : Answer :=
  issue (gprEffect d (maxuValue (s.gpr s1) (s.gpr s2))) s

/-- maxu, immediate form (R266). -/
def execMaxuI (d : RegNum) (s1 : RegNum) (i : BitVec 9) (s : State) : Answer :=
  issue (gprEffect d (maxuValue (s.gpr s1) (s.imm i))) s

/-- min, register form (R267). -/
def execMinR (d : RegNum) (s1 : RegNum) (s2 : RegNum) (s : State) : Answer :=
  issue (gprEffect d (minValue (s.gpr s1) (s.gpr s2))) s

/-- min, immediate form (R267). -/
def execMinI (d : RegNum) (s1 : RegNum) (i : BitVec 9) (s : State) : Answer :=
  issue (gprEffect d (minValue (s.gpr s1) (s.imm i))) s

/-- minu, register form (R268). -/
def execMinuR (d : RegNum) (s1 : RegNum) (s2 : RegNum) (s : State) : Answer :=
  issue (gprEffect d (minuValue (s.gpr s1) (s.gpr s2))) s

/-- minu, immediate form (R268). -/
def execMinuI (d : RegNum) (s1 : RegNum) (i : BitVec 9) (s : State) : Answer :=
  issue (gprEffect d (minuValue (s.gpr s1) (s.imm i))) s

/-- sxtb (R269). -/
def execSxtb (d : RegNum) (s1 : RegNum) (s : State) : Answer :=
  issue (gprEffect d (sxtbValue (s.gpr s1))) s

/-- sxth (R270). -/
def execSxth (d : RegNum) (s1 : RegNum) (s : State) : Answer :=
  issue (gprEffect d (sxthValue (s.gpr s1))) s

/-- bswap (R271). -/
def execBswap (d : RegNum) (s1 : RegNum) (s : State) : Answer :=
  issue (gprEffect d (bswapValue (s.gpr s1))) s

/-- zxth (R272). -/
def execZxth (d : RegNum) (s1 : RegNum) (s : State) : Answer :=
  issue (gprEffect d (zxthValue (s.gpr s1))) s

/-- clz (R273). -/
def execClz (d : RegNum) (s1 : RegNum) (s : State) : Answer :=
  issue (gprEffect d (clzValue (s.gpr s1))) s

/-- addcg (R274). -/
def execAddcg (d : RegNum) (b : BrNum) (c : BrNum) (s1 : RegNum) (s2 : RegNum) (s : State) : Answer :=
  issue (gprBrEffect d (addcgValue (s.gpr s1) (s.gpr s2) (s.br c)) b (addcgCarry (s.gpr s1) (s.gpr s2) (s.br c))) s

/-- divs (R275). -/
def execDivs (d : RegNum) (b : BrNum) (c : BrNum) (s1 : RegNum) (s2 : RegNum) (s : State) : Answer :=
  issue (gprBrEffect d (divsValue (s.gpr s1) (s.gpr s2) (s.br c)) b (divsBit (s.gpr s1))) s

end Sys2Proof.Machine
end

