-- ==== Sys2Proof/Machine/Compare.lean ====
section
/-! DEFINITION. Compare, logical and select operations (41_compare_select.md): four forms of each comparison, whose
boolean is Sys2Proof/Machine/Flags.lean's. -/

namespace Sys2Proof.Machine

/-- The effect of an operation that writes one branch register (41 R300). -/
def brEffect (b : BrNum) (c : Bool) : Effect := { writes := [.br b c] }

/-- slct and slctf: `v1` when the condition holds, else `v2` (41 R320, R321). -/
def selectValue (cond : Bool) (v1 v2 : Word) : Word := if cond then v1 else v2

/-- cmpeq, register operands, to a general register (R301). -/
def execCmpeqRR (d : RegNum) (s1 : RegNum) (s2 : RegNum) (s : State) : Answer :=
  issue (gprEffect d (boolWord (condEq (s.gpr s1) (s.gpr s2)))) s

/-- cmpeq, register operands, to a branch register (R301). -/
def execCmpeqBR (b : BrNum) (s1 : RegNum) (s2 : RegNum) (s : State) : Answer :=
  issue (brEffect b (condEq (s.gpr s1) (s.gpr s2))) s

/-- cmpeq, immediate operand, to a general register (R301). -/
def execCmpeqRI (d : RegNum) (s1 : RegNum) (i : BitVec 9) (s : State) : Answer :=
  issue (gprEffect d (boolWord (condEq (s.gpr s1) (s.imm i)))) s

/-- cmpeq, immediate operand, to a branch register (R301). -/
def execCmpeqBI (b : BrNum) (s1 : RegNum) (i : BitVec 9) (s : State) : Answer :=
  issue (brEffect b (condEq (s.gpr s1) (s.imm i))) s

/-- cmpne, register operands, to a general register (R302). -/
def execCmpneRR (d : RegNum) (s1 : RegNum) (s2 : RegNum) (s : State) : Answer :=
  issue (gprEffect d (boolWord (condNe (s.gpr s1) (s.gpr s2)))) s

/-- cmpne, register operands, to a branch register (R302). -/
def execCmpneBR (b : BrNum) (s1 : RegNum) (s2 : RegNum) (s : State) : Answer :=
  issue (brEffect b (condNe (s.gpr s1) (s.gpr s2))) s

/-- cmpne, immediate operand, to a general register (R302). -/
def execCmpneRI (d : RegNum) (s1 : RegNum) (i : BitVec 9) (s : State) : Answer :=
  issue (gprEffect d (boolWord (condNe (s.gpr s1) (s.imm i)))) s

/-- cmpne, immediate operand, to a branch register (R302). -/
def execCmpneBI (b : BrNum) (s1 : RegNum) (i : BitVec 9) (s : State) : Answer :=
  issue (brEffect b (condNe (s.gpr s1) (s.imm i))) s

/-- cmpge, register operands, to a general register (R303). -/
def execCmpgeRR (d : RegNum) (s1 : RegNum) (s2 : RegNum) (s : State) : Answer :=
  issue (gprEffect d (boolWord (condGe (s.gpr s1) (s.gpr s2)))) s

/-- cmpge, register operands, to a branch register (R303). -/
def execCmpgeBR (b : BrNum) (s1 : RegNum) (s2 : RegNum) (s : State) : Answer :=
  issue (brEffect b (condGe (s.gpr s1) (s.gpr s2))) s

/-- cmpge, immediate operand, to a general register (R303). -/
def execCmpgeRI (d : RegNum) (s1 : RegNum) (i : BitVec 9) (s : State) : Answer :=
  issue (gprEffect d (boolWord (condGe (s.gpr s1) (s.imm i)))) s

/-- cmpge, immediate operand, to a branch register (R303). -/
def execCmpgeBI (b : BrNum) (s1 : RegNum) (i : BitVec 9) (s : State) : Answer :=
  issue (brEffect b (condGe (s.gpr s1) (s.imm i))) s

/-- cmpgeu, register operands, to a general register (R304). -/
def execCmpgeuRR (d : RegNum) (s1 : RegNum) (s2 : RegNum) (s : State) : Answer :=
  issue (gprEffect d (boolWord (condGeu (s.gpr s1) (s.gpr s2)))) s

/-- cmpgeu, register operands, to a branch register (R304). -/
def execCmpgeuBR (b : BrNum) (s1 : RegNum) (s2 : RegNum) (s : State) : Answer :=
  issue (brEffect b (condGeu (s.gpr s1) (s.gpr s2))) s

/-- cmpgeu, immediate operand, to a general register (R304). -/
def execCmpgeuRI (d : RegNum) (s1 : RegNum) (i : BitVec 9) (s : State) : Answer :=
  issue (gprEffect d (boolWord (condGeu (s.gpr s1) (s.imm i)))) s

/-- cmpgeu, immediate operand, to a branch register (R304). -/
def execCmpgeuBI (b : BrNum) (s1 : RegNum) (i : BitVec 9) (s : State) : Answer :=
  issue (brEffect b (condGeu (s.gpr s1) (s.imm i))) s

/-- cmpgt, register operands, to a general register (R305). -/
def execCmpgtRR (d : RegNum) (s1 : RegNum) (s2 : RegNum) (s : State) : Answer :=
  issue (gprEffect d (boolWord (condGt (s.gpr s1) (s.gpr s2)))) s

/-- cmpgt, register operands, to a branch register (R305). -/
def execCmpgtBR (b : BrNum) (s1 : RegNum) (s2 : RegNum) (s : State) : Answer :=
  issue (brEffect b (condGt (s.gpr s1) (s.gpr s2))) s

/-- cmpgt, immediate operand, to a general register (R305). -/
def execCmpgtRI (d : RegNum) (s1 : RegNum) (i : BitVec 9) (s : State) : Answer :=
  issue (gprEffect d (boolWord (condGt (s.gpr s1) (s.imm i)))) s

/-- cmpgt, immediate operand, to a branch register (R305). -/
def execCmpgtBI (b : BrNum) (s1 : RegNum) (i : BitVec 9) (s : State) : Answer :=
  issue (brEffect b (condGt (s.gpr s1) (s.imm i))) s

/-- cmpgtu, register operands, to a general register (R306). -/
def execCmpgtuRR (d : RegNum) (s1 : RegNum) (s2 : RegNum) (s : State) : Answer :=
  issue (gprEffect d (boolWord (condGtu (s.gpr s1) (s.gpr s2)))) s

/-- cmpgtu, register operands, to a branch register (R306). -/
def execCmpgtuBR (b : BrNum) (s1 : RegNum) (s2 : RegNum) (s : State) : Answer :=
  issue (brEffect b (condGtu (s.gpr s1) (s.gpr s2))) s

/-- cmpgtu, immediate operand, to a general register (R306). -/
def execCmpgtuRI (d : RegNum) (s1 : RegNum) (i : BitVec 9) (s : State) : Answer :=
  issue (gprEffect d (boolWord (condGtu (s.gpr s1) (s.imm i)))) s

/-- cmpgtu, immediate operand, to a branch register (R306). -/
def execCmpgtuBI (b : BrNum) (s1 : RegNum) (i : BitVec 9) (s : State) : Answer :=
  issue (brEffect b (condGtu (s.gpr s1) (s.imm i))) s

/-- cmple, register operands, to a general register (R307). -/
def execCmpleRR (d : RegNum) (s1 : RegNum) (s2 : RegNum) (s : State) : Answer :=
  issue (gprEffect d (boolWord (condLe (s.gpr s1) (s.gpr s2)))) s

/-- cmple, register operands, to a branch register (R307). -/
def execCmpleBR (b : BrNum) (s1 : RegNum) (s2 : RegNum) (s : State) : Answer :=
  issue (brEffect b (condLe (s.gpr s1) (s.gpr s2))) s

/-- cmple, immediate operand, to a general register (R307). -/
def execCmpleRI (d : RegNum) (s1 : RegNum) (i : BitVec 9) (s : State) : Answer :=
  issue (gprEffect d (boolWord (condLe (s.gpr s1) (s.imm i)))) s

/-- cmple, immediate operand, to a branch register (R307). -/
def execCmpleBI (b : BrNum) (s1 : RegNum) (i : BitVec 9) (s : State) : Answer :=
  issue (brEffect b (condLe (s.gpr s1) (s.imm i))) s

/-- cmpleu, register operands, to a general register (R308). -/
def execCmpleuRR (d : RegNum) (s1 : RegNum) (s2 : RegNum) (s : State) : Answer :=
  issue (gprEffect d (boolWord (condLeu (s.gpr s1) (s.gpr s2)))) s

/-- cmpleu, register operands, to a branch register (R308). -/
def execCmpleuBR (b : BrNum) (s1 : RegNum) (s2 : RegNum) (s : State) : Answer :=
  issue (brEffect b (condLeu (s.gpr s1) (s.gpr s2))) s

/-- cmpleu, immediate operand, to a general register (R308). -/
def execCmpleuRI (d : RegNum) (s1 : RegNum) (i : BitVec 9) (s : State) : Answer :=
  issue (gprEffect d (boolWord (condLeu (s.gpr s1) (s.imm i)))) s

/-- cmpleu, immediate operand, to a branch register (R308). -/
def execCmpleuBI (b : BrNum) (s1 : RegNum) (i : BitVec 9) (s : State) : Answer :=
  issue (brEffect b (condLeu (s.gpr s1) (s.imm i))) s

/-- cmplt, register operands, to a general register (R309). -/
def execCmpltRR (d : RegNum) (s1 : RegNum) (s2 : RegNum) (s : State) : Answer :=
  issue (gprEffect d (boolWord (condLt (s.gpr s1) (s.gpr s2)))) s

/-- cmplt, register operands, to a branch register (R309). -/
def execCmpltBR (b : BrNum) (s1 : RegNum) (s2 : RegNum) (s : State) : Answer :=
  issue (brEffect b (condLt (s.gpr s1) (s.gpr s2))) s

/-- cmplt, immediate operand, to a general register (R309). -/
def execCmpltRI (d : RegNum) (s1 : RegNum) (i : BitVec 9) (s : State) : Answer :=
  issue (gprEffect d (boolWord (condLt (s.gpr s1) (s.imm i)))) s

/-- cmplt, immediate operand, to a branch register (R309). -/
def execCmpltBI (b : BrNum) (s1 : RegNum) (i : BitVec 9) (s : State) : Answer :=
  issue (brEffect b (condLt (s.gpr s1) (s.imm i))) s

/-- cmpltu, register operands, to a general register (R310). -/
def execCmpltuRR (d : RegNum) (s1 : RegNum) (s2 : RegNum) (s : State) : Answer :=
  issue (gprEffect d (boolWord (condLtu (s.gpr s1) (s.gpr s2)))) s

/-- cmpltu, register operands, to a branch register (R310). -/
def execCmpltuBR (b : BrNum) (s1 : RegNum) (s2 : RegNum) (s : State) : Answer :=
  issue (brEffect b (condLtu (s.gpr s1) (s.gpr s2))) s

/-- cmpltu, immediate operand, to a general register (R310). -/
def execCmpltuRI (d : RegNum) (s1 : RegNum) (i : BitVec 9) (s : State) : Answer :=
  issue (gprEffect d (boolWord (condLtu (s.gpr s1) (s.imm i)))) s

/-- cmpltu, immediate operand, to a branch register (R310). -/
def execCmpltuBI (b : BrNum) (s1 : RegNum) (i : BitVec 9) (s : State) : Answer :=
  issue (brEffect b (condLtu (s.gpr s1) (s.imm i))) s

/-- andl, register operands, to a general register (R311). -/
def execAndlRR (d : RegNum) (s1 : RegNum) (s2 : RegNum) (s : State) : Answer :=
  issue (gprEffect d (boolWord (condAndl (s.gpr s1) (s.gpr s2)))) s

/-- andl, register operands, to a branch register (R311). -/
def execAndlBR (b : BrNum) (s1 : RegNum) (s2 : RegNum) (s : State) : Answer :=
  issue (brEffect b (condAndl (s.gpr s1) (s.gpr s2))) s

/-- andl, immediate operand, to a general register (R311). -/
def execAndlRI (d : RegNum) (s1 : RegNum) (i : BitVec 9) (s : State) : Answer :=
  issue (gprEffect d (boolWord (condAndl (s.gpr s1) (s.imm i)))) s

/-- andl, immediate operand, to a branch register (R311). -/
def execAndlBI (b : BrNum) (s1 : RegNum) (i : BitVec 9) (s : State) : Answer :=
  issue (brEffect b (condAndl (s.gpr s1) (s.imm i))) s

/-- nandl, register operands, to a general register (R312). -/
def execNandlRR (d : RegNum) (s1 : RegNum) (s2 : RegNum) (s : State) : Answer :=
  issue (gprEffect d (boolWord (condNandl (s.gpr s1) (s.gpr s2)))) s

/-- nandl, register operands, to a branch register (R312). -/
def execNandlBR (b : BrNum) (s1 : RegNum) (s2 : RegNum) (s : State) : Answer :=
  issue (brEffect b (condNandl (s.gpr s1) (s.gpr s2))) s

/-- nandl, immediate operand, to a general register (R312). -/
def execNandlRI (d : RegNum) (s1 : RegNum) (i : BitVec 9) (s : State) : Answer :=
  issue (gprEffect d (boolWord (condNandl (s.gpr s1) (s.imm i)))) s

/-- nandl, immediate operand, to a branch register (R312). -/
def execNandlBI (b : BrNum) (s1 : RegNum) (i : BitVec 9) (s : State) : Answer :=
  issue (brEffect b (condNandl (s.gpr s1) (s.imm i))) s

/-- orl, register operands, to a general register (R313). -/
def execOrlRR (d : RegNum) (s1 : RegNum) (s2 : RegNum) (s : State) : Answer :=
  issue (gprEffect d (boolWord (condOrl (s.gpr s1) (s.gpr s2)))) s

/-- orl, register operands, to a branch register (R313). -/
def execOrlBR (b : BrNum) (s1 : RegNum) (s2 : RegNum) (s : State) : Answer :=
  issue (brEffect b (condOrl (s.gpr s1) (s.gpr s2))) s

/-- orl, immediate operand, to a general register (R313). -/
def execOrlRI (d : RegNum) (s1 : RegNum) (i : BitVec 9) (s : State) : Answer :=
  issue (gprEffect d (boolWord (condOrl (s.gpr s1) (s.imm i)))) s

/-- orl, immediate operand, to a branch register (R313). -/
def execOrlBI (b : BrNum) (s1 : RegNum) (i : BitVec 9) (s : State) : Answer :=
  issue (brEffect b (condOrl (s.gpr s1) (s.imm i))) s

/-- norl, register operands, to a general register (R314). -/
def execNorlRR (d : RegNum) (s1 : RegNum) (s2 : RegNum) (s : State) : Answer :=
  issue (gprEffect d (boolWord (condNorl (s.gpr s1) (s.gpr s2)))) s

/-- norl, register operands, to a branch register (R314). -/
def execNorlBR (b : BrNum) (s1 : RegNum) (s2 : RegNum) (s : State) : Answer :=
  issue (brEffect b (condNorl (s.gpr s1) (s.gpr s2))) s

/-- norl, immediate operand, to a general register (R314). -/
def execNorlRI (d : RegNum) (s1 : RegNum) (i : BitVec 9) (s : State) : Answer :=
  issue (gprEffect d (boolWord (condNorl (s.gpr s1) (s.imm i)))) s

/-- norl, immediate operand, to a branch register (R314). -/
def execNorlBI (b : BrNum) (s1 : RegNum) (i : BitVec 9) (s : State) : Answer :=
  issue (brEffect b (condNorl (s.gpr s1) (s.imm i))) s

/-- slct, register form (R320). -/
def execSlctR (d : RegNum) (c : BrNum) (s1 : RegNum) (s2 : RegNum) (s : State) : Answer :=
  issue (gprEffect d (selectValue (s.br c) (s.gpr s1) (s.gpr s2))) s

/-- slct, immediate form (R320). -/
def execSlctI (d : RegNum) (c : BrNum) (s1 : RegNum) (i : BitVec 9) (s : State) : Answer :=
  issue (gprEffect d (selectValue (s.br c) (s.gpr s1) (s.imm i))) s

/-- slctf, register form (R321). -/
def execSlctfR (d : RegNum) (c : BrNum) (s1 : RegNum) (s2 : RegNum) (s : State) : Answer :=
  issue (gprEffect d (selectValue (!s.br c) (s.gpr s1) (s.gpr s2))) s

/-- slctf, immediate form (R321). -/
def execSlctfI (d : RegNum) (c : BrNum) (s1 : RegNum) (i : BitVec 9) (s : State) : Answer :=
  issue (gprEffect d (selectValue (!s.br c) (s.gpr s1) (s.imm i))) s

end Sys2Proof.Machine
end

