-- ==== Sys2Proof/Machine/LoadStore.lean ====
section
/-! DEFINITION. Load, store, prefetch, purge and sync operations (43_loadstore.md); their checks in the order of rule
R440. -/

namespace Sys2Proof.Machine

/-- An operation of the load/store unit that throws `r`. -/
def lsuRaise (r : Raised) : Effect := { kind := .loadStore, raised := some r }

/-- An operation of the load/store unit with these assignments. -/
def lsuEffect (ws : List Write) : Effect := { kind := .loadStore, writes := ws }

/-- `result1` of a load as `Register(result1)` (43 R411 to R415). -/
def extendWord (v : Word) : Word := v

def extendHalf (v : Word) : Word := register (sext16 v)

def extendHalfU (v : Word) : Word := register (zext16 v)

def extendByte (v : Word) : Word := register (sext8 v)

def extendByteU (v : Word) : Word := register (zext8 v)

/-- A load of control register `r` into `d` (20 R128, 61 R643). -/
def State.cregLoad (s : State) (r : CReg) (d : RegNum) : Effect :=
  { kind := .loadStore
    stall := s.loadStall r
    writes := .gpr d (s.cregValue r) :: s.loadSideEffects r }

/-- ldw (43 R411): control register space is read as registers. -/
def State.loadWordEffect (s : State) (d : RegNum) (ea : Word) : Effect :=
  if s.dbreakHit ea then lsuRaise { cause := .dbreak, addr := ea }
  else if isCRegSpace ea then
    match s.cregCheck ea, cregAt ea with
    | some r, _ => lsuRaise r
    | none, some reg => s.cregLoad reg d
    | none, none => lsuRaise { cause := .cregNoMapping, addr := ea }
  else
    match s.readCheck .word ea with
    | some r => lsuRaise r
    | none => lsuEffect (s.memLoadWrites .word extendWord d (s.translate ea))

/-- ldh, ldhu, ldb, ldbu (43 R412 to R415): control register space is a violation. -/
def State.loadPartEffect (s : State) (w : Width) (extend : Word → Word) (d : RegNum) (ea : Word) : Effect :=
  if s.dbreakHit ea then lsuRaise { cause := .dbreak, addr := ea }
  else if isCRegSpace ea then lsuRaise { cause := .cregAccessViolation, addr := ea }
  else
    match s.readCheck w ea with
    | some r => lsuRaise r
    | none => lsuEffect (s.memLoadWrites w extend d (s.translate ea))

/-- The dismissible loads (43 R416 to R421; 20 R122, R123): 0 where a normal load could not be made. -/
def State.loadDismissibleEffect (s : State) (w : Width) (extend : Word → Word) (d : RegNum) (ea : Word) : Effect :=
  if s.dbreakHit ea then lsuRaise { cause := .dbreak, addr := ea }
  else if isCRegSpace ea then lsuEffect [.gpr d 0#32]
  else
    match s.disReadCheck w ea with
    | some r => lsuRaise r
    | none =>
      if s.disReadPerformed w ea then lsuEffect (s.memLoadWrites w extend d (s.translate ea))
      else lsuEffect [.gpr d 0#32]

/-- stw (43 R425): control register space is written as registers. -/
def State.storeWordEffect (s : State) (ea v : Word) : Effect :=
  if s.dbreakHit ea then lsuRaise { cause := .dbreak, addr := ea }
  else if isCRegSpace ea then
    match s.cregCheck ea, cregAt ea with
    | some r, _ => lsuRaise r
    | none, some reg => { kind := .loadStore, stall := s.storeStall reg, writes := [.creg reg v] }
    | none, none => lsuRaise { cause := .cregNoMapping, addr := ea }
  else
    match s.writeCheck .word ea with
    | some r => lsuRaise r
    | none => lsuEffect (s.memStoreWrites .word (s.translate ea) v)

/-- sth and stb (43 R426, R427): control register space is a violation. -/
def State.storePartEffect (s : State) (w : Width) (ea v : Word) : Effect :=
  if s.dbreakHit ea then lsuRaise { cause := .dbreak, addr := ea }
  else if isCRegSpace ea then lsuRaise { cause := .cregAccessViolation, addr := ea }
  else
    match s.writeCheck w ea with
    | some r => lsuRaise r
    | none => lsuEffect (s.memStoreWrites w (s.translate ea) v)

/-- prgadd (43 R431): its checks; the purge changes no state of the model (20 R160). -/
def State.purgeEffect (s : State) (ea : Word) : Effect :=
  match s.purgeCheck ea with
  | some r => lsuRaise r
  | none => lsuEffect []

/-- The effect of a privileged operation: ILL_INST in user mode (30 R228). -/
def State.privileged (s : State) (e : Effect) : Effect :=
  if s.userMode then { e with raised := some { cause := .illInst }, stall := none, writes := [] } else e

/-- ldw (R411). -/
def execLdw (d : RegNum) (s1 : RegNum) (i : BitVec 9) (s : State) : Answer :=
  issue (s.loadWordEffect d (s.ea s1 i)) s

/-- ldw.d (R416). -/
def execLdwD (d : RegNum) (s1 : RegNum) (i : BitVec 9) (s : State) : Answer :=
  issue (s.loadDismissibleEffect .word extendWord d (s.ea s1 i)) s

/-- ldh (R412). -/
def execLdh (d : RegNum) (s1 : RegNum) (i : BitVec 9) (s : State) : Answer :=
  issue (s.loadPartEffect .half extendHalf d (s.ea s1 i)) s

/-- ldh.d (R417). -/
def execLdhD (d : RegNum) (s1 : RegNum) (i : BitVec 9) (s : State) : Answer :=
  issue (s.loadDismissibleEffect .half extendHalf d (s.ea s1 i)) s

/-- ldhu (R413). -/
def execLdhu (d : RegNum) (s1 : RegNum) (i : BitVec 9) (s : State) : Answer :=
  issue (s.loadPartEffect .half extendHalfU d (s.ea s1 i)) s

/-- ldhu.d (R418). -/
def execLdhuD (d : RegNum) (s1 : RegNum) (i : BitVec 9) (s : State) : Answer :=
  issue (s.loadDismissibleEffect .half extendHalfU d (s.ea s1 i)) s

/-- ldb (R414). -/
def execLdb (d : RegNum) (s1 : RegNum) (i : BitVec 9) (s : State) : Answer :=
  issue (s.loadPartEffect .byte extendByte d (s.ea s1 i)) s

/-- ldb.d (R419). -/
def execLdbD (d : RegNum) (s1 : RegNum) (i : BitVec 9) (s : State) : Answer :=
  issue (s.loadDismissibleEffect .byte extendByte d (s.ea s1 i)) s

/-- ldbu (R415). -/
def execLdbu (d : RegNum) (s1 : RegNum) (i : BitVec 9) (s : State) : Answer :=
  issue (s.loadPartEffect .byte extendByteU d (s.ea s1 i)) s

/-- ldbu.d (R420). -/
def execLdbuD (d : RegNum) (s1 : RegNum) (i : BitVec 9) (s : State) : Answer :=
  issue (s.loadDismissibleEffect .byte extendByteU d (s.ea s1 i)) s

/-- stw (R425). -/
def execStw (s1 : RegNum) (i : BitVec 9) (s2 : RegNum) (s : State) : Answer :=
  issue (s.storeWordEffect (s.ea s1 i) (s.gpr s2)) s

/-- sth (R426). -/
def execSth (s1 : RegNum) (i : BitVec 9) (s2 : RegNum) (s : State) : Answer :=
  issue (s.storePartEffect .half (s.ea s1 i) (s.gpr s2)) s

/-- stb (R427). -/
def execStb (s1 : RegNum) (i : BitVec 9) (s2 : RegNum) (s : State) : Answer :=
  issue (s.storePartEffect .byte (s.ea s1 i) (s.gpr s2)) s

/-- prgadd (R431). -/
def execPrgadd (s1 : RegNum) (i : BitVec 9) (s : State) : Answer :=
  issue (s.purgeEffect (s.ea s1 i)) s

/-- pft (43 R430; 20 R126): a cache hint, no exception, no state of the model. -/
def execPft (_s1 : RegNum) (_i : BitVec 9) (s : State) : Answer := issue (lsuEffect []) s

/-- prgset (43 R432): purges a cache set, no exception, no state of the model (20 R160). -/
def execPrgset (_s1 : RegNum) (_i : BitVec 9) (s : State) : Answer := issue (lsuEffect []) s

/-- sync (43 R433): every earlier access is complete already (20 R158, R160). -/
def execSync (s : State) : Answer := issue (lsuEffect []) s

/-- prginspg (43 R437): privileged; invalidates a page of the instruction cache, no state of the model. -/
def execPrginspg (_s1 : RegNum) (_i : BitVec 9) (s : State) : Answer := issue (s.privileged (lsuEffect [])) s

/-- prgins (43 R436): privileged; invalidates the instruction cache, no state of the model. -/
def execPrgins (s : State) : Answer := issue (s.privileged {}) s

end Sys2Proof.Machine
end

