-- ==== Sys2Proof/Machine/Control.lean ====
section
/-! DEFINITION. Control transfer operations, immediate extensions (44_control.md) and system operations
(45_system.md). -/

namespace Sys2Proof.Machine

/-- A taken control transfer to `target` with further assignments. -/
def jumpEffect (target : Word) (more : List Write) : Effect := { kind := .branchTaken, writes := .pc target :: more }

/-- br and brf: to the target of R450 if `taken`, else on to the next bundle (44 R451, R452). -/
def State.branchEffect (s : State) (taken : Bool) (t : BitVec 23) : Effect :=
  if taken then jumpEffect (s.branchTarget t) [] else { kind := .branchNotTaken }

/-- The bundle is the idle macro and the core enters idle mode: `goto` to itself, alone in its bundle, performance
monitoring off, SDI output buffers empty (44 R468; 61 R690; assumption 28). -/
def State.entersIdle (s : State) (t : BitVec 23) : Bool :=
  t == 0#23 && s.bundle.words == 1 && !s.pm.enb && s.sdiOutputsEmpty

/-- br (44 R451). -/
def execBr (c : BrNum) (t : BitVec 23) (s : State) : Answer := issue (s.branchEffect (s.br c) t) s

/-- brf (44 R452). -/
def execBrf (c : BrNum) (t : BitVec 23) (s : State) : Answer := issue (s.branchEffect (!s.br c) t) s

/-- goto, immediate (44 R453), and its idle macro (R468). -/
def execGoto (t : BitVec 23) (s : State) : Answer :=
  issue (jumpEffect (s.branchTarget t) (if s.entersIdle t then [.enterIdle] else [])) s

/-- goto, link register (44 R454). -/
def execGotoLink (s : State) : Answer := issue (jumpEffect (s.gpr linkReg) []) s

/-- call, immediate (44 R455): R63 receives the address of the next bundle. -/
def execCall (t : BitVec 23) (s : State) : Answer :=
  issue (jumpEffect (s.branchTarget t) [.gpr linkReg (s.nextSeqPc s.bundle.words)]) s

/-- call, link register (44 R456): both assignments use the R63 of before the bundle. -/
def execCallLink (s : State) : Answer :=
  issue (jumpEffect (s.gpr linkReg) [.gpr linkReg (s.nextSeqPc s.bundle.words)]) s

/-- rfi (44 R460): privileged, by the PSW as every earlier bundle left it (DESIGN CHOICE, assumption 22). -/
def execRfi (s : State) : Answer :=
  issue (s.privileged { kind := .branchTaken, writes := [.returnFromException] }) s

/-- imml (44 R466): extends its left neighbour (30 R208) and does nothing else. -/
def execImml (_v : BitVec 23) (s : State) : Answer := issue { kind := .longImmediate } s

/-- immr (44 R467): extends its right neighbour (30 R208) and does nothing else. -/
def execImmr (_v : BitVec 23) (s : State) : Answer := issue { kind := .longImmediate } s

/-- pswset (45 R471): privileged; sets bits of the PSW through the write filter. -/
def execPswset (s2 : RegNum) (s : State) : Answer :=
  issue (s.privileged (lsuEffect [.psw (pswAssign s.psw (s.psw ||| s.gpr s2))])) s

/-- pswclr (45 R472): privileged; clears bits of the PSW through the write filter. -/
def execPswclr (s2 : RegNum) (s : State) : Answer :=
  issue (s.privileged (lsuEffect [.psw (pswAssign s.psw (s.psw &&& ~~~(s.gpr s2)))])) s

/-- sbrk (45 R473): throws SBREAK. -/
def execSbrk (_n : BitVec 21) (s : State) : Answer := issue { raised := some { cause := .sbreak } } s

/-- syscall (45 R474): throws SYSCALL. -/
def execSyscall (_n : BitVec 21) (s : State) : Answer := issue { raised := some { cause := .syscall } } s

/-- break (45 R475): throws ILL_INST. -/
def execBreakOp (s : State) : Answer := issue { raised := some { cause := .illInst } } s

end Sys2Proof.Machine
end

