-- ==== Sys2Proof/Machine/Multiply.lean ====
section
/-! DEFINITION. Multiply operations (42_multiply.md). `a` is `R[SRC1]`, `b` is `R[SRC2]` or the immediate; products are
exact and the low 32 bits are kept (42 R370). -/

namespace Sys2Proof.Machine

/-- The upper half of an operand, signed: `sext_32(x) >> 16` (42 R373). -/
def upperSigned (x : Word) : Int := sext32 x >>> 16

/-- The upper half of an operand, unsigned: `zext_16(sext_32(x) >> 16)` (42 R374). -/
def upperUnsigned (x : Word) : Int := zextInt 16 (sext32 x >>> 16)

/-- mull (42 R371). -/
def mullValue (a b : Word) : Word :=
  register (sext32 a * sext16 b)

/-- mullu (42 R372). -/
def mulluValue (a b : Word) : Word :=
  register (zext32 a * zext16 b)

/-- mulh (42 R373). -/
def mulhValue (a b : Word) : Word :=
  register (sext32 a * upperSigned b)

/-- mulhu (42 R374). -/
def mulhuValue (a b : Word) : Word :=
  register (zext32 a * upperUnsigned b)

/-- mulll (42 R375). -/
def mulllValue (a b : Word) : Word :=
  register (sext16 a * sext16 b)

/-- mulllu (42 R376). -/
def mullluValue (a b : Word) : Word :=
  register (zext16 a * zext16 b)

/-- mullh (42 R377). -/
def mullhValue (a b : Word) : Word :=
  register (sext16 a * upperSigned b)

/-- mullhu (42 R378). -/
def mullhuValue (a b : Word) : Word :=
  register (zext16 a * upperUnsigned b)

/-- mulhh (42 R379). -/
def mulhhValue (a b : Word) : Word :=
  register (upperSigned a * upperSigned b)

/-- mulhhu (42 R380). -/
def mulhhuValue (a b : Word) : Word :=
  register (upperUnsigned a * upperUnsigned b)

/-- mulhs (42 R381). -/
def mulhsValue (a b : Word) : Word :=
  register (sext32 a * upperUnsigned b * 2 ^ 16)

/-- mulhhs (42 R382). -/
def mulhhsValue (a b : Word) : Word :=
  register ((sext32 a * upperSigned b) >>> 16)

/-- mullhus (42 R383). -/
def mullhusValue (a b : Word) : Word :=
  register ((sext32 a * zext16 b) >>> 32)

/-- mul32 (42 R384). -/
def mul32Value (a b : Word) : Word :=
  register (sext32 a * sext32 b)

/-- mul64h (42 R385). -/
def mul64hValue (a b : Word) : Word :=
  register ((sext32 a * sext32 b) >>> 32)

/-- mul64hu (42 R386). -/
def mul64huValue (a b : Word) : Word :=
  register ((zext32 a * zext32 b) >>> 32)

/-- mulfrac (42 R387). -/
def mulfracValue (a b : Word) : Word :=
  if -sext32 a = 0x80000000 ∧ -sext32 b = 0x80000000 then 0x7FFFFFFF#32
  else register ((sext32 a * sext32 b + 2 ^ 30) >>> 31)

/-- mullhus, register form (R383). -/
def execMullhusR (d : RegNum) (s1 : RegNum) (s2 : RegNum) (s : State) : Answer :=
  issue (gprEffect d (mullhusValue (s.gpr s1) (s.gpr s2))) s

/-- mullhus, immediate form (R383). -/
def execMullhusI (d : RegNum) (s1 : RegNum) (i : BitVec 9) (s : State) : Answer :=
  issue (gprEffect d (mullhusValue (s.gpr s1) (s.imm i))) s

/-- mulhhs, register form (R382). -/
def execMulhhsR (d : RegNum) (s1 : RegNum) (s2 : RegNum) (s : State) : Answer :=
  issue (gprEffect d (mulhhsValue (s.gpr s1) (s.gpr s2))) s

/-- mulhhs, immediate form (R382). -/
def execMulhhsI (d : RegNum) (s1 : RegNum) (i : BitVec 9) (s : State) : Answer :=
  issue (gprEffect d (mulhhsValue (s.gpr s1) (s.imm i))) s

/-- mull, register form (R371). -/
def execMullR (d : RegNum) (s1 : RegNum) (s2 : RegNum) (s : State) : Answer :=
  issue (gprEffect d (mullValue (s.gpr s1) (s.gpr s2))) s

/-- mull, immediate form (R371). -/
def execMullI (d : RegNum) (s1 : RegNum) (i : BitVec 9) (s : State) : Answer :=
  issue (gprEffect d (mullValue (s.gpr s1) (s.imm i))) s

/-- mullu, register form (R372). -/
def execMulluR (d : RegNum) (s1 : RegNum) (s2 : RegNum) (s : State) : Answer :=
  issue (gprEffect d (mulluValue (s.gpr s1) (s.gpr s2))) s

/-- mullu, immediate form (R372). -/
def execMulluI (d : RegNum) (s1 : RegNum) (i : BitVec 9) (s : State) : Answer :=
  issue (gprEffect d (mulluValue (s.gpr s1) (s.imm i))) s

/-- mulh, register form (R373). -/
def execMulhR (d : RegNum) (s1 : RegNum) (s2 : RegNum) (s : State) : Answer :=
  issue (gprEffect d (mulhValue (s.gpr s1) (s.gpr s2))) s

/-- mulh, immediate form (R373). -/
def execMulhI (d : RegNum) (s1 : RegNum) (i : BitVec 9) (s : State) : Answer :=
  issue (gprEffect d (mulhValue (s.gpr s1) (s.imm i))) s

/-- mulhu, register form (R374). -/
def execMulhuR (d : RegNum) (s1 : RegNum) (s2 : RegNum) (s : State) : Answer :=
  issue (gprEffect d (mulhuValue (s.gpr s1) (s.gpr s2))) s

/-- mulhu, immediate form (R374). -/
def execMulhuI (d : RegNum) (s1 : RegNum) (i : BitVec 9) (s : State) : Answer :=
  issue (gprEffect d (mulhuValue (s.gpr s1) (s.imm i))) s

/-- mulll, register form (R375). -/
def execMulllR (d : RegNum) (s1 : RegNum) (s2 : RegNum) (s : State) : Answer :=
  issue (gprEffect d (mulllValue (s.gpr s1) (s.gpr s2))) s

/-- mulll, immediate form (R375). -/
def execMulllI (d : RegNum) (s1 : RegNum) (i : BitVec 9) (s : State) : Answer :=
  issue (gprEffect d (mulllValue (s.gpr s1) (s.imm i))) s

/-- mulllu, register form (R376). -/
def execMullluR (d : RegNum) (s1 : RegNum) (s2 : RegNum) (s : State) : Answer :=
  issue (gprEffect d (mullluValue (s.gpr s1) (s.gpr s2))) s

/-- mulllu, immediate form (R376). -/
def execMullluI (d : RegNum) (s1 : RegNum) (i : BitVec 9) (s : State) : Answer :=
  issue (gprEffect d (mullluValue (s.gpr s1) (s.imm i))) s

/-- mullh, register form (R377). -/
def execMullhR (d : RegNum) (s1 : RegNum) (s2 : RegNum) (s : State) : Answer :=
  issue (gprEffect d (mullhValue (s.gpr s1) (s.gpr s2))) s

/-- mullh, immediate form (R377). -/
def execMullhI (d : RegNum) (s1 : RegNum) (i : BitVec 9) (s : State) : Answer :=
  issue (gprEffect d (mullhValue (s.gpr s1) (s.imm i))) s

/-- mullhu, register form (R378). -/
def execMullhuR (d : RegNum) (s1 : RegNum) (s2 : RegNum) (s : State) : Answer :=
  issue (gprEffect d (mullhuValue (s.gpr s1) (s.gpr s2))) s

/-- mullhu, immediate form (R378). -/
def execMullhuI (d : RegNum) (s1 : RegNum) (i : BitVec 9) (s : State) : Answer :=
  issue (gprEffect d (mullhuValue (s.gpr s1) (s.imm i))) s

/-- mulhh, register form (R379). -/
def execMulhhR (d : RegNum) (s1 : RegNum) (s2 : RegNum) (s : State) : Answer :=
  issue (gprEffect d (mulhhValue (s.gpr s1) (s.gpr s2))) s

/-- mulhh, immediate form (R379). -/
def execMulhhI (d : RegNum) (s1 : RegNum) (i : BitVec 9) (s : State) : Answer :=
  issue (gprEffect d (mulhhValue (s.gpr s1) (s.imm i))) s

/-- mulhhu, register form (R380). -/
def execMulhhuR (d : RegNum) (s1 : RegNum) (s2 : RegNum) (s : State) : Answer :=
  issue (gprEffect d (mulhhuValue (s.gpr s1) (s.gpr s2))) s

/-- mulhhu, immediate form (R380). -/
def execMulhhuI (d : RegNum) (s1 : RegNum) (i : BitVec 9) (s : State) : Answer :=
  issue (gprEffect d (mulhhuValue (s.gpr s1) (s.imm i))) s

/-- mulhs, register form (R381). -/
def execMulhsR (d : RegNum) (s1 : RegNum) (s2 : RegNum) (s : State) : Answer :=
  issue (gprEffect d (mulhsValue (s.gpr s1) (s.gpr s2))) s

/-- mulhs, immediate form (R381). -/
def execMulhsI (d : RegNum) (s1 : RegNum) (i : BitVec 9) (s : State) : Answer :=
  issue (gprEffect d (mulhsValue (s.gpr s1) (s.imm i))) s

/-- mul32, register form (R384). -/
def execMul32R (d : RegNum) (s1 : RegNum) (s2 : RegNum) (s : State) : Answer :=
  issue (gprEffect d (mul32Value (s.gpr s1) (s.gpr s2))) s

/-- mul32, immediate form (R384). -/
def execMul32I (d : RegNum) (s1 : RegNum) (i : BitVec 9) (s : State) : Answer :=
  issue (gprEffect d (mul32Value (s.gpr s1) (s.imm i))) s

/-- mul64h, register form (R385). -/
def execMul64hR (d : RegNum) (s1 : RegNum) (s2 : RegNum) (s : State) : Answer :=
  issue (gprEffect d (mul64hValue (s.gpr s1) (s.gpr s2))) s

/-- mul64h, immediate form (R385). -/
def execMul64hI (d : RegNum) (s1 : RegNum) (i : BitVec 9) (s : State) : Answer :=
  issue (gprEffect d (mul64hValue (s.gpr s1) (s.imm i))) s

/-- mul64hu, register form (R386). -/
def execMul64huR (d : RegNum) (s1 : RegNum) (s2 : RegNum) (s : State) : Answer :=
  issue (gprEffect d (mul64huValue (s.gpr s1) (s.gpr s2))) s

/-- mul64hu, immediate form (R386). -/
def execMul64huI (d : RegNum) (s1 : RegNum) (i : BitVec 9) (s : State) : Answer :=
  issue (gprEffect d (mul64huValue (s.gpr s1) (s.imm i))) s

/-- mulfrac, register form (R387). -/
def execMulfracR (d : RegNum) (s1 : RegNum) (s2 : RegNum) (s : State) : Answer :=
  issue (gprEffect d (mulfracValue (s.gpr s1) (s.gpr s2))) s

/-- mulfrac, immediate form (R387). -/
def execMulfracI (d : RegNum) (s1 : RegNum) (i : BitVec 9) (s : State) : Answer :=
  issue (gprEffect d (mulfracValue (s.gpr s1) (s.imm i))) s

end Sys2Proof.Machine
end

