-- ==== Sys2Proof/Machine/Dispatch.lean ====
section
/-! DEFINITION. One arm per operation, each a direct call of its meaning. -/

namespace Sys2Proof.Machine

def exec (i : Instr) (s : State) : Host.Outcome State Fault Refusal :=
  match i with
  | .addR d s1 s2 => Sys2Proof.Machine.execAddR d s1 s2 s
  | .addI d s1 imm => Sys2Proof.Machine.execAddI d s1 imm s
  | .subR d s1 s2 => Sys2Proof.Machine.execSubR d s1 s2 s
  | .subI d s1 imm => Sys2Proof.Machine.execSubI d s1 imm s
  | .shlR d s1 s2 => Sys2Proof.Machine.execShlR d s1 s2 s
  | .shlI d s1 imm => Sys2Proof.Machine.execShlI d s1 imm s
  | .shrR d s1 s2 => Sys2Proof.Machine.execShrR d s1 s2 s
  | .shrI d s1 imm => Sys2Proof.Machine.execShrI d s1 imm s
  | .shruR d s1 s2 => Sys2Proof.Machine.execShruR d s1 s2 s
  | .shruI d s1 imm => Sys2Proof.Machine.execShruI d s1 imm s
  | .sh1addR d s1 s2 => Sys2Proof.Machine.execSh1addR d s1 s2 s
  | .sh1addI d s1 imm => Sys2Proof.Machine.execSh1addI d s1 imm s
  | .sh2addR d s1 s2 => Sys2Proof.Machine.execSh2addR d s1 s2 s
  | .sh2addI d s1 imm => Sys2Proof.Machine.execSh2addI d s1 imm s
  | .sh3addR d s1 s2 => Sys2Proof.Machine.execSh3addR d s1 s2 s
  | .sh3addI d s1 imm => Sys2Proof.Machine.execSh3addI d s1 imm s
  | .sh4addR d s1 s2 => Sys2Proof.Machine.execSh4addR d s1 s2 s
  | .sh4addI d s1 imm => Sys2Proof.Machine.execSh4addI d s1 imm s
  | .andR d s1 s2 => Sys2Proof.Machine.execAndR d s1 s2 s
  | .andI d s1 imm => Sys2Proof.Machine.execAndI d s1 imm s
  | .andcR d s1 s2 => Sys2Proof.Machine.execAndcR d s1 s2 s
  | .andcI d s1 imm => Sys2Proof.Machine.execAndcI d s1 imm s
  | .orR d s1 s2 => Sys2Proof.Machine.execOrR d s1 s2 s
  | .orI d s1 imm => Sys2Proof.Machine.execOrI d s1 imm s
  | .orcR d s1 s2 => Sys2Proof.Machine.execOrcR d s1 s2 s
  | .orcI d s1 imm => Sys2Proof.Machine.execOrcI d s1 imm s
  | .xorR d s1 s2 => Sys2Proof.Machine.execXorR d s1 s2 s
  | .xorI d s1 imm => Sys2Proof.Machine.execXorI d s1 imm s
  | .maxR d s1 s2 => Sys2Proof.Machine.execMaxR d s1 s2 s
  | .maxI d s1 imm => Sys2Proof.Machine.execMaxI d s1 imm s
  | .maxuR d s1 s2 => Sys2Proof.Machine.execMaxuR d s1 s2 s
  | .maxuI d s1 imm => Sys2Proof.Machine.execMaxuI d s1 imm s
  | .minR d s1 s2 => Sys2Proof.Machine.execMinR d s1 s2 s
  | .minI d s1 imm => Sys2Proof.Machine.execMinI d s1 imm s
  | .minuR d s1 s2 => Sys2Proof.Machine.execMinuR d s1 s2 s
  | .minuI d s1 imm => Sys2Proof.Machine.execMinuI d s1 imm s
  | .sxtb d s1 => Sys2Proof.Machine.execSxtb d s1 s
  | .sxth d s1 => Sys2Proof.Machine.execSxth d s1 s
  | .bswap d s1 => Sys2Proof.Machine.execBswap d s1 s
  | .zxth d s1 => Sys2Proof.Machine.execZxth d s1 s
  | .clz d s1 => Sys2Proof.Machine.execClz d s1 s
  | .mullhusR d s1 s2 => Sys2Proof.Machine.execMullhusR d s1 s2 s
  | .mullhusI d s1 imm => Sys2Proof.Machine.execMullhusI d s1 imm s
  | .mulhhsR d s1 s2 => Sys2Proof.Machine.execMulhhsR d s1 s2 s
  | .mulhhsI d s1 imm => Sys2Proof.Machine.execMulhhsI d s1 imm s
  | .mullR d s1 s2 => Sys2Proof.Machine.execMullR d s1 s2 s
  | .mullI d s1 imm => Sys2Proof.Machine.execMullI d s1 imm s
  | .mulluR d s1 s2 => Sys2Proof.Machine.execMulluR d s1 s2 s
  | .mulluI d s1 imm => Sys2Proof.Machine.execMulluI d s1 imm s
  | .mulhR d s1 s2 => Sys2Proof.Machine.execMulhR d s1 s2 s
  | .mulhI d s1 imm => Sys2Proof.Machine.execMulhI d s1 imm s
  | .mulhuR d s1 s2 => Sys2Proof.Machine.execMulhuR d s1 s2 s
  | .mulhuI d s1 imm => Sys2Proof.Machine.execMulhuI d s1 imm s
  | .mulllR d s1 s2 => Sys2Proof.Machine.execMulllR d s1 s2 s
  | .mulllI d s1 imm => Sys2Proof.Machine.execMulllI d s1 imm s
  | .mullluR d s1 s2 => Sys2Proof.Machine.execMullluR d s1 s2 s
  | .mullluI d s1 imm => Sys2Proof.Machine.execMullluI d s1 imm s
  | .mullhR d s1 s2 => Sys2Proof.Machine.execMullhR d s1 s2 s
  | .mullhI d s1 imm => Sys2Proof.Machine.execMullhI d s1 imm s
  | .mullhuR d s1 s2 => Sys2Proof.Machine.execMullhuR d s1 s2 s
  | .mullhuI d s1 imm => Sys2Proof.Machine.execMullhuI d s1 imm s
  | .mulhhR d s1 s2 => Sys2Proof.Machine.execMulhhR d s1 s2 s
  | .mulhhI d s1 imm => Sys2Proof.Machine.execMulhhI d s1 imm s
  | .mulhhuR d s1 s2 => Sys2Proof.Machine.execMulhhuR d s1 s2 s
  | .mulhhuI d s1 imm => Sys2Proof.Machine.execMulhhuI d s1 imm s
  | .mulhsR d s1 s2 => Sys2Proof.Machine.execMulhsR d s1 s2 s
  | .mulhsI d s1 imm => Sys2Proof.Machine.execMulhsI d s1 imm s
  | .cmpeqRR d s1 s2 => Sys2Proof.Machine.execCmpeqRR d s1 s2 s
  | .cmpeqBR b s1 s2 => Sys2Proof.Machine.execCmpeqBR b s1 s2 s
  | .cmpeqRI d s1 imm => Sys2Proof.Machine.execCmpeqRI d s1 imm s
  | .cmpeqBI b s1 imm => Sys2Proof.Machine.execCmpeqBI b s1 imm s
  | .cmpneRR d s1 s2 => Sys2Proof.Machine.execCmpneRR d s1 s2 s
  | .cmpneBR b s1 s2 => Sys2Proof.Machine.execCmpneBR b s1 s2 s
  | .cmpneRI d s1 imm => Sys2Proof.Machine.execCmpneRI d s1 imm s
  | .cmpneBI b s1 imm => Sys2Proof.Machine.execCmpneBI b s1 imm s
  | .cmpgeRR d s1 s2 => Sys2Proof.Machine.execCmpgeRR d s1 s2 s
  | .cmpgeBR b s1 s2 => Sys2Proof.Machine.execCmpgeBR b s1 s2 s
  | .cmpgeRI d s1 imm => Sys2Proof.Machine.execCmpgeRI d s1 imm s
  | .cmpgeBI b s1 imm => Sys2Proof.Machine.execCmpgeBI b s1 imm s
  | .cmpgeuRR d s1 s2 => Sys2Proof.Machine.execCmpgeuRR d s1 s2 s
  | .cmpgeuBR b s1 s2 => Sys2Proof.Machine.execCmpgeuBR b s1 s2 s
  | .cmpgeuRI d s1 imm => Sys2Proof.Machine.execCmpgeuRI d s1 imm s
  | .cmpgeuBI b s1 imm => Sys2Proof.Machine.execCmpgeuBI b s1 imm s
  | .cmpgtRR d s1 s2 => Sys2Proof.Machine.execCmpgtRR d s1 s2 s
  | .cmpgtBR b s1 s2 => Sys2Proof.Machine.execCmpgtBR b s1 s2 s
  | .cmpgtRI d s1 imm => Sys2Proof.Machine.execCmpgtRI d s1 imm s
  | .cmpgtBI b s1 imm => Sys2Proof.Machine.execCmpgtBI b s1 imm s
  | .cmpgtuRR d s1 s2 => Sys2Proof.Machine.execCmpgtuRR d s1 s2 s
  | .cmpgtuBR b s1 s2 => Sys2Proof.Machine.execCmpgtuBR b s1 s2 s
  | .cmpgtuRI d s1 imm => Sys2Proof.Machine.execCmpgtuRI d s1 imm s
  | .cmpgtuBI b s1 imm => Sys2Proof.Machine.execCmpgtuBI b s1 imm s
  | .cmpleRR d s1 s2 => Sys2Proof.Machine.execCmpleRR d s1 s2 s
  | .cmpleBR b s1 s2 => Sys2Proof.Machine.execCmpleBR b s1 s2 s
  | .cmpleRI d s1 imm => Sys2Proof.Machine.execCmpleRI d s1 imm s
  | .cmpleBI b s1 imm => Sys2Proof.Machine.execCmpleBI b s1 imm s
  | .cmpleuRR d s1 s2 => Sys2Proof.Machine.execCmpleuRR d s1 s2 s
  | .cmpleuBR b s1 s2 => Sys2Proof.Machine.execCmpleuBR b s1 s2 s
  | .cmpleuRI d s1 imm => Sys2Proof.Machine.execCmpleuRI d s1 imm s
  | .cmpleuBI b s1 imm => Sys2Proof.Machine.execCmpleuBI b s1 imm s
  | .cmpltRR d s1 s2 => Sys2Proof.Machine.execCmpltRR d s1 s2 s
  | .cmpltBR b s1 s2 => Sys2Proof.Machine.execCmpltBR b s1 s2 s
  | .cmpltRI d s1 imm => Sys2Proof.Machine.execCmpltRI d s1 imm s
  | .cmpltBI b s1 imm => Sys2Proof.Machine.execCmpltBI b s1 imm s
  | .cmpltuRR d s1 s2 => Sys2Proof.Machine.execCmpltuRR d s1 s2 s
  | .cmpltuBR b s1 s2 => Sys2Proof.Machine.execCmpltuBR b s1 s2 s
  | .cmpltuRI d s1 imm => Sys2Proof.Machine.execCmpltuRI d s1 imm s
  | .cmpltuBI b s1 imm => Sys2Proof.Machine.execCmpltuBI b s1 imm s
  | .andlRR d s1 s2 => Sys2Proof.Machine.execAndlRR d s1 s2 s
  | .andlBR b s1 s2 => Sys2Proof.Machine.execAndlBR b s1 s2 s
  | .andlRI d s1 imm => Sys2Proof.Machine.execAndlRI d s1 imm s
  | .andlBI b s1 imm => Sys2Proof.Machine.execAndlBI b s1 imm s
  | .nandlRR d s1 s2 => Sys2Proof.Machine.execNandlRR d s1 s2 s
  | .nandlBR b s1 s2 => Sys2Proof.Machine.execNandlBR b s1 s2 s
  | .nandlRI d s1 imm => Sys2Proof.Machine.execNandlRI d s1 imm s
  | .nandlBI b s1 imm => Sys2Proof.Machine.execNandlBI b s1 imm s
  | .orlRR d s1 s2 => Sys2Proof.Machine.execOrlRR d s1 s2 s
  | .orlBR b s1 s2 => Sys2Proof.Machine.execOrlBR b s1 s2 s
  | .orlRI d s1 imm => Sys2Proof.Machine.execOrlRI d s1 imm s
  | .orlBI b s1 imm => Sys2Proof.Machine.execOrlBI b s1 imm s
  | .norlRR d s1 s2 => Sys2Proof.Machine.execNorlRR d s1 s2 s
  | .norlBR b s1 s2 => Sys2Proof.Machine.execNorlBR b s1 s2 s
  | .norlRI d s1 imm => Sys2Proof.Machine.execNorlRI d s1 imm s
  | .norlBI b s1 imm => Sys2Proof.Machine.execNorlBI b s1 imm s
  | .mul32R d s1 s2 => Sys2Proof.Machine.execMul32R d s1 s2 s
  | .mul32I d s1 imm => Sys2Proof.Machine.execMul32I d s1 imm s
  | .mul64hR d s1 s2 => Sys2Proof.Machine.execMul64hR d s1 s2 s
  | .mul64hI d s1 imm => Sys2Proof.Machine.execMul64hI d s1 imm s
  | .mul64huR d s1 s2 => Sys2Proof.Machine.execMul64huR d s1 s2 s
  | .mul64huI d s1 imm => Sys2Proof.Machine.execMul64huI d s1 imm s
  | .mulfracR d s1 s2 => Sys2Proof.Machine.execMulfracR d s1 s2 s
  | .mulfracI d s1 imm => Sys2Proof.Machine.execMulfracI d s1 imm s
  | .slctR d c s1 s2 => Sys2Proof.Machine.execSlctR d c s1 s2 s
  | .slctI d c s1 imm => Sys2Proof.Machine.execSlctI d c s1 imm s
  | .slctfR d c s1 s2 => Sys2Proof.Machine.execSlctfR d c s1 s2 s
  | .slctfI d c s1 imm => Sys2Proof.Machine.execSlctfI d c s1 imm s
  | .addcg d b c s1 s2 => Sys2Proof.Machine.execAddcg d b c s1 s2 s
  | .divs d b c s1 s2 => Sys2Proof.Machine.execDivs d b c s1 s2 s
  | .imml v => Sys2Proof.Machine.execImml v s
  | .immr v => Sys2Proof.Machine.execImmr v s
  | .prgins => Sys2Proof.Machine.execPrgins s
  | .sbrk n => Sys2Proof.Machine.execSbrk n s
  | .syscall n => Sys2Proof.Machine.execSyscall n s
  | .breakOp => Sys2Proof.Machine.execBreakOp s
  | .ldw d s1 imm => Sys2Proof.Machine.execLdw d s1 imm s
  | .ldwD d s1 imm => Sys2Proof.Machine.execLdwD d s1 imm s
  | .ldh d s1 imm => Sys2Proof.Machine.execLdh d s1 imm s
  | .ldhD d s1 imm => Sys2Proof.Machine.execLdhD d s1 imm s
  | .ldhu d s1 imm => Sys2Proof.Machine.execLdhu d s1 imm s
  | .ldhuD d s1 imm => Sys2Proof.Machine.execLdhuD d s1 imm s
  | .ldb d s1 imm => Sys2Proof.Machine.execLdb d s1 imm s
  | .ldbD d s1 imm => Sys2Proof.Machine.execLdbD d s1 imm s
  | .ldbu d s1 imm => Sys2Proof.Machine.execLdbu d s1 imm s
  | .ldbuD d s1 imm => Sys2Proof.Machine.execLdbuD d s1 imm s
  | .stw s1 imm s2 => Sys2Proof.Machine.execStw s1 imm s2 s
  | .sth s1 imm s2 => Sys2Proof.Machine.execSth s1 imm s2 s
  | .stb s1 imm s2 => Sys2Proof.Machine.execStb s1 imm s2 s
  | .pft s1 imm => Sys2Proof.Machine.execPft s1 imm s
  | .prgadd s1 imm => Sys2Proof.Machine.execPrgadd s1 imm s
  | .prgset s1 imm => Sys2Proof.Machine.execPrgset s1 imm s
  | .prginspg s1 imm => Sys2Proof.Machine.execPrginspg s1 imm s
  | .sync => Sys2Proof.Machine.execSync s
  | .pswset s2 => Sys2Proof.Machine.execPswset s2 s
  | .pswclr s2 => Sys2Proof.Machine.execPswclr s2 s
  | .call t => Sys2Proof.Machine.execCall t s
  | .callLink => Sys2Proof.Machine.execCallLink s
  | .goto t => Sys2Proof.Machine.execGoto t s
  | .gotoLink => Sys2Proof.Machine.execGotoLink s
  | .rfi => Sys2Proof.Machine.execRfi s
  | .br c t => Sys2Proof.Machine.execBr c t s
  | .brf c t => Sys2Proof.Machine.execBrf c t s

end Sys2Proof.Machine
end

