-- ==== Sys2Proof/Machine/Environment.lean ====
section
/-! DEFINITION. What happens between bundles (70_reset_and_hazards.md rule R720): the environment's events, and the
asynchronous causes at the bundle boundary (60_exceptions.md rules R521, R522). -/

namespace Sys2Proof.Machine

/-- The DSU sends what it has pending: the byte handed to the TAPLink, or DSR2 as an event that awaits its
acknowledgement (61 R668). -/
def State.dsuSend (s : State) : State :=
  if s.dsu.outputPending then
    match s.cfg.debugVariant with
    | .tapLink =>
      { s with
        dsu := { s.dsu with outputPending := false }
        toHost := s.toHost ++ [.event (s.dsu.linkByte.setWidth 32)] }
    | .jtag =>
      { s with
        dsu := { s.dsu with outputPending := false, eventAckPending := true }
        toHost := s.toHost ++ [.event s.dsu.dsr2] }
  else s

/-- A host event requests a debug interrupt (61 R611). -/
def hostEventInterrupts (variant : DebugVariant) (reason channel : BitVec 3) : Bool :=
  match variant with
  | .tapLink => reason == 1#3
  | .jtag => reason == 1#3 && channel == 0#3

/-- Drive one of the interrupt lines (60 R541). -/
def Pins.driveIrq (p : Pins) (line : Fin 64) (level : Bool) : Pins :=
  let bit : Word := 1#32 <<< (line.val % 32)
  if line.val < 32 then { p with irqLow := if level then p.irqLow ||| bit else p.irqLow &&& ~~~bit }
  else { p with irqHigh := if level then p.irqHigh ||| bit else p.irqHigh &&& ~~~bit }

/-- One event of the environment. Only the JTAG variant answers a poke and an event, and only there does the host
acknowledge events (61 R673, R674). -/
def applyEvent (s : State) : EnvEvent → State
  | .busClock => s.busClock
  | .irq line level => { s with pins := s.pins.driveIrq line level }
  | .irqMaster level => { s with pins := { s.pins with irqMaster := level } }
  | .triggerIn level => { s with pins := { s.pins with triggerIn := level } }
  | .hostPeek n => { s with toHost := s.toHost ++ [.peeked n (s.dsrValue n)] }
  | .hostPoke n v =>
    let t := s.pokeDsr n v
    match s.cfg.debugVariant with
    | .tapLink => t
    | .jtag => { t with toHost := t.toHost ++ [.poked n] }
  | .hostEvent reason channel =>
    let t := { s with dbgPending := s.dbgPending || hostEventInterrupts s.cfg.debugVariant reason channel }
    match s.cfg.debugVariant with
    | .tapLink => t
    | .jtag => { t with toHost := t.toHost ++ [.eventAck reason channel] }
  | .hostEventAck =>
    match s.cfg.debugVariant with
    | .tapLink => s
    | .jtag => { s with dsu := { s.dsu with eventAckPending := false } }
  | .dsuSend => s.dsuSend
  | .sdiPush i v => s.sdiDevicePush i v
  | .sdiPop i => s.sdiDevicePop i
  | .sdiResetInput i level => s.sdiDriveReset i level
  | .busErrorD => { s with dcError := some 0 }
  | .busWrite pa v => { s with mem := s.mem.write pa.toNat v }
  | .resetPin => State.resetWith s.cfg s.mem s.pins s.inputs s.toHost s.oracle

/-- The trigger-in pin requests a debug interrupt while DSR1.TRIGGER_ENABLE = 1 (61 R611; 92 D32). That the pin is active
at the level 1, the value DSR1 shows, is a DESIGN CHOICE (assumption 40). -/
def State.sampleTrigger (s : State) : State :=
  { s with dbgPending := s.dbgPending || (s.dsu.triggerEnable && s.pins.triggerIn) }

/-- A pending D-side bus error comes one boundary nearer (20 R176). -/
def State.ageBusError (s : State) : State :=
  { s with
    dcError :=
      match s.dcError with
      | some (n + 1) => some n
      | other => other }

/-- The bundle boundary before a step: this boundary's events, then the pins are sampled. -/
def State.boundary (s : State) : State :=
  ((s.inputs.headD []).foldl applyEvent { s with inputs := s.inputs.tail }).sampleTrigger.ageBusError

/-- The debug interrupt is taken (61 R610, R611). -/
def State.debugAccepted (s : State) : Bool := s.dbgPending && !s.debugMode

/-- A D-side bus error is reported now. -/
def State.busErrorDue (s : State) : Bool := s.dcError == some 0

/-- The causes present at the bundle boundary besides those of the fetch (60 R521). While an SDI access waits, an
accepted external interrupt is tested before a bus error and excludes it (61 R648). -/
def State.boundaryCauses (s : State) : List Raised :=
  if s.sdiStalled && s.interruptAccepted then [{ cause := .externInt }]
  else
    (if s.busErrorDue then [{ cause := .stbusDcError }] else [])
    ++ (if s.interruptAccepted then [{ cause := .externInt }] else [])
    ++ (if s.ibreakHit s.pc then [{ cause := .ibreak }] else [])

end Sys2Proof.Machine
end

