-- ==== Sys2Proof/Machine/Legality.lean ====
section
/-! DEFINITION. When a bundle is legal (30_encoding.md rules R216 to R227), and which bundles are
privileged (R228). Every flaw has a name; each raises ILL_INST (30 R216). -/

namespace Sys2Proof.Machine

/-- What the bundle rules ask of an operation. -/
structure OpInfo where
  /-- the general register it writes (R225); call writes R63 -/
  dest : Option RegNum := none
  /-- the branch register it writes (R225) -/
  bdest : Option BrNum := none
  /-- its immediate can be extended (R209) -/
  extendable : Bool := false
  /-- it is a multiply (R220) -/
  multiply : Bool := false
  /-- it uses the load/store unit (R224) -/
  loadStore : Bool := false
  /-- it must be the first syllable (R219) -/
  firstOnly : Bool := false
  /-- it must be alone (R227) -/
  alone : Bool := false
  /-- it can be executed in supervisor mode only (R228) -/
  privileged : Bool := false
  deriving DecidableEq, Repr

/-- The properties of each operation (R209, R219, R220, R224, R225, R227, R228). -/
def opInfo : Instr → OpInfo
  | .addR d _ _ => { dest := some d }
  | .addI d _ _ => { dest := some d, extendable := true }
  | .subR d _ _ => { dest := some d }
  | .subI d _ _ => { dest := some d, extendable := true }
  | .shlR d _ _ => { dest := some d }
  | .shlI d _ _ => { dest := some d, extendable := true }
  | .shrR d _ _ => { dest := some d }
  | .shrI d _ _ => { dest := some d, extendable := true }
  | .shruR d _ _ => { dest := some d }
  | .shruI d _ _ => { dest := some d, extendable := true }
  | .sh1addR d _ _ => { dest := some d }
  | .sh1addI d _ _ => { dest := some d, extendable := true }
  | .sh2addR d _ _ => { dest := some d }
  | .sh2addI d _ _ => { dest := some d, extendable := true }
  | .sh3addR d _ _ => { dest := some d }
  | .sh3addI d _ _ => { dest := some d, extendable := true }
  | .sh4addR d _ _ => { dest := some d }
  | .sh4addI d _ _ => { dest := some d, extendable := true }
  | .andR d _ _ => { dest := some d }
  | .andI d _ _ => { dest := some d, extendable := true }
  | .andcR d _ _ => { dest := some d }
  | .andcI d _ _ => { dest := some d, extendable := true }
  | .orR d _ _ => { dest := some d }
  | .orI d _ _ => { dest := some d, extendable := true }
  | .orcR d _ _ => { dest := some d }
  | .orcI d _ _ => { dest := some d, extendable := true }
  | .xorR d _ _ => { dest := some d }
  | .xorI d _ _ => { dest := some d, extendable := true }
  | .maxR d _ _ => { dest := some d }
  | .maxI d _ _ => { dest := some d, extendable := true }
  | .maxuR d _ _ => { dest := some d }
  | .maxuI d _ _ => { dest := some d, extendable := true }
  | .minR d _ _ => { dest := some d }
  | .minI d _ _ => { dest := some d, extendable := true }
  | .minuR d _ _ => { dest := some d }
  | .minuI d _ _ => { dest := some d, extendable := true }
  | .sxtb d _ => { dest := some d }
  | .sxth d _ => { dest := some d }
  | .bswap d _ => { dest := some d }
  | .zxth d _ => { dest := some d }
  | .clz d _ => { dest := some d }
  | .mullhusR d _ _ => { dest := some d, multiply := true }
  | .mullhusI d _ _ => { dest := some d, extendable := true, multiply := true }
  | .mulhhsR d _ _ => { dest := some d, multiply := true }
  | .mulhhsI d _ _ => { dest := some d, extendable := true, multiply := true }
  | .mullR d _ _ => { dest := some d, multiply := true }
  | .mullI d _ _ => { dest := some d, extendable := true, multiply := true }
  | .mulluR d _ _ => { dest := some d, multiply := true }
  | .mulluI d _ _ => { dest := some d, extendable := true, multiply := true }
  | .mulhR d _ _ => { dest := some d, multiply := true }
  | .mulhI d _ _ => { dest := some d, extendable := true, multiply := true }
  | .mulhuR d _ _ => { dest := some d, multiply := true }
  | .mulhuI d _ _ => { dest := some d, extendable := true, multiply := true }
  | .mulllR d _ _ => { dest := some d, multiply := true }
  | .mulllI d _ _ => { dest := some d, extendable := true, multiply := true }
  | .mullluR d _ _ => { dest := some d, multiply := true }
  | .mullluI d _ _ => { dest := some d, extendable := true, multiply := true }
  | .mullhR d _ _ => { dest := some d, multiply := true }
  | .mullhI d _ _ => { dest := some d, extendable := true, multiply := true }
  | .mullhuR d _ _ => { dest := some d, multiply := true }
  | .mullhuI d _ _ => { dest := some d, extendable := true, multiply := true }
  | .mulhhR d _ _ => { dest := some d, multiply := true }
  | .mulhhI d _ _ => { dest := some d, extendable := true, multiply := true }
  | .mulhhuR d _ _ => { dest := some d, multiply := true }
  | .mulhhuI d _ _ => { dest := some d, extendable := true, multiply := true }
  | .mulhsR d _ _ => { dest := some d, multiply := true }
  | .mulhsI d _ _ => { dest := some d, extendable := true, multiply := true }
  | .cmpeqRR d _ _ => { dest := some d }
  | .cmpeqBR b _ _ => { bdest := some b }
  | .cmpeqRI d _ _ => { dest := some d, extendable := true }
  | .cmpeqBI b _ _ => { bdest := some b, extendable := true }
  | .cmpneRR d _ _ => { dest := some d }
  | .cmpneBR b _ _ => { bdest := some b }
  | .cmpneRI d _ _ => { dest := some d, extendable := true }
  | .cmpneBI b _ _ => { bdest := some b, extendable := true }
  | .cmpgeRR d _ _ => { dest := some d }
  | .cmpgeBR b _ _ => { bdest := some b }
  | .cmpgeRI d _ _ => { dest := some d, extendable := true }
  | .cmpgeBI b _ _ => { bdest := some b, extendable := true }
  | .cmpgeuRR d _ _ => { dest := some d }
  | .cmpgeuBR b _ _ => { bdest := some b }
  | .cmpgeuRI d _ _ => { dest := some d, extendable := true }
  | .cmpgeuBI b _ _ => { bdest := some b, extendable := true }
  | .cmpgtRR d _ _ => { dest := some d }
  | .cmpgtBR b _ _ => { bdest := some b }
  | .cmpgtRI d _ _ => { dest := some d, extendable := true }
  | .cmpgtBI b _ _ => { bdest := some b, extendable := true }
  | .cmpgtuRR d _ _ => { dest := some d }
  | .cmpgtuBR b _ _ => { bdest := some b }
  | .cmpgtuRI d _ _ => { dest := some d, extendable := true }
  | .cmpgtuBI b _ _ => { bdest := some b, extendable := true }
  | .cmpleRR d _ _ => { dest := some d }
  | .cmpleBR b _ _ => { bdest := some b }
  | .cmpleRI d _ _ => { dest := some d, extendable := true }
  | .cmpleBI b _ _ => { bdest := some b, extendable := true }
  | .cmpleuRR d _ _ => { dest := some d }
  | .cmpleuBR b _ _ => { bdest := some b }
  | .cmpleuRI d _ _ => { dest := some d, extendable := true }
  | .cmpleuBI b _ _ => { bdest := some b, extendable := true }
  | .cmpltRR d _ _ => { dest := some d }
  | .cmpltBR b _ _ => { bdest := some b }
  | .cmpltRI d _ _ => { dest := some d, extendable := true }
  | .cmpltBI b _ _ => { bdest := some b, extendable := true }
  | .cmpltuRR d _ _ => { dest := some d }
  | .cmpltuBR b _ _ => { bdest := some b }
  | .cmpltuRI d _ _ => { dest := some d, extendable := true }
  | .cmpltuBI b _ _ => { bdest := some b, extendable := true }
  | .andlRR d _ _ => { dest := some d }
  | .andlBR b _ _ => { bdest := some b }
  | .andlRI d _ _ => { dest := some d, extendable := true }
  | .andlBI b _ _ => { bdest := some b, extendable := true }
  | .nandlRR d _ _ => { dest := some d }
  | .nandlBR b _ _ => { bdest := some b }
  | .nandlRI d _ _ => { dest := some d, extendable := true }
  | .nandlBI b _ _ => { bdest := some b, extendable := true }
  | .orlRR d _ _ => { dest := some d }
  | .orlBR b _ _ => { bdest := some b }
  | .orlRI d _ _ => { dest := some d, extendable := true }
  | .orlBI b _ _ => { bdest := some b, extendable := true }
  | .norlRR d _ _ => { dest := some d }
  | .norlBR b _ _ => { bdest := some b }
  | .norlRI d _ _ => { dest := some d, extendable := true }
  | .norlBI b _ _ => { bdest := some b, extendable := true }
  | .mul32R d _ _ => { dest := some d, multiply := true }
  | .mul32I d _ _ => { dest := some d, extendable := true, multiply := true }
  | .mul64hR d _ _ => { dest := some d, multiply := true }
  | .mul64hI d _ _ => { dest := some d, extendable := true, multiply := true }
  | .mul64huR d _ _ => { dest := some d, multiply := true }
  | .mul64huI d _ _ => { dest := some d, extendable := true, multiply := true }
  | .mulfracR d _ _ => { dest := some d, multiply := true }
  | .mulfracI d _ _ => { dest := some d, extendable := true, multiply := true }
  | .slctR d _ _ _ => { dest := some d }
  | .slctI d _ _ _ => { dest := some d, extendable := true }
  | .slctfR d _ _ _ => { dest := some d }
  | .slctfI d _ _ _ => { dest := some d, extendable := true }
  | .addcg d b _ _ _ => { dest := some d, bdest := some b }
  | .divs d b _ _ _ => { dest := some d, bdest := some b }
  | .imml _ => {}
  | .immr _ => {}
  | .prgins => { alone := true, privileged := true }
  | .sbrk _ => {}
  | .syscall _ => { alone := true }
  | .breakOp => {}
  | .ldw d _ _ => { dest := some d, extendable := true, loadStore := true }
  | .ldwD d _ _ => { dest := some d, extendable := true, loadStore := true }
  | .ldh d _ _ => { dest := some d, extendable := true, loadStore := true }
  | .ldhD d _ _ => { dest := some d, extendable := true, loadStore := true }
  | .ldhu d _ _ => { dest := some d, extendable := true, loadStore := true }
  | .ldhuD d _ _ => { dest := some d, extendable := true, loadStore := true }
  | .ldb d _ _ => { dest := some d, extendable := true, loadStore := true }
  | .ldbD d _ _ => { dest := some d, extendable := true, loadStore := true }
  | .ldbu d _ _ => { dest := some d, extendable := true, loadStore := true }
  | .ldbuD d _ _ => { dest := some d, extendable := true, loadStore := true }
  | .stw _ _ _ => { extendable := true, loadStore := true }
  | .sth _ _ _ => { extendable := true, loadStore := true }
  | .stb _ _ _ => { extendable := true, loadStore := true }
  | .pft _ _ => { extendable := true, loadStore := true }
  | .prgadd _ _ => { extendable := true, loadStore := true }
  | .prgset _ _ => { extendable := true, loadStore := true }
  | .prginspg _ _ => { extendable := true, loadStore := true, privileged := true }
  | .sync => { loadStore := true }
  | .pswset _ => { loadStore := true, firstOnly := true, privileged := true }
  | .pswclr _ => { loadStore := true, firstOnly := true, privileged := true }
  | .call _ => { dest := some linkReg, firstOnly := true }
  | .callLink => { dest := some linkReg, firstOnly := true }
  | .goto _ => { firstOnly := true }
  | .gotoLink => { firstOnly := true }
  | .rfi => { loadStore := true, firstOnly := true, privileged := true }
  | .br _ _ => { firstOnly := true }
  | .brf _ _ => { firstOnly := true }

/-- Why a bundle is illegal. -/
inductive BundleFlaw
  /-- four syllables without a stop bit (R217) -/
  | noStop
  /-- a syllable is no valid operation (R216, R218, R223, R229) -/
  | invalidSyllable (e : DecodeError)
  /-- a control transfer, pswset or pswclr that is not first (R219) -/
  | notFirst
  /-- a multiply at an even word address (R220) -/
  | multiplyAtEvenWord
  /-- an immediate extension at an odd word address (R221) -/
  | extensionAtOddWord
  /-- an immediate extension with no extendable operation beside it in the bundle (R222) -/
  | orphanExtension
  /-- an operation with two immediate extensions (R222) -/
  | twoExtensions
  /-- two operations for the load/store unit (R224) -/
  | twoLoadStores
  /-- two operations write one general register (R225) -/
  | duplicateDestination
  /-- two operations write one branch register (R225) -/
  | duplicateBranchDestination
  /-- R63 is the destination of a multiply or of a byte or half-word load (R226) -/
  | linkDestination
  /-- prgins or syscall with company (R227) -/
  | notAlone
  deriving DecidableEq, Repr

/-- The value of an immr. -/
def immrValue : Instr → Option (BitVec 23)
  | .immr v => some v
  | _ => none

/-- The value of an imml. -/
def immlValue : Instr → Option (BitVec 23)
  | .imml v => some v
  | _ => none

/-- An instruction is an immediate extension. -/
def isExtension (i : Instr) : Bool := (immrValue i).isSome || (immlValue i).isSome

/-- Each operation with its left and right neighbours in the bundle. -/
def withNeighbours : Option Instr → List Instr → List (Option Instr × Instr × Option Instr)
  | _, [] => []
  | left, i :: rest => (left, i, rest.head?) :: withNeighbours (some i) rest

/-- The extension attached to an operation by its neighbours (30 R208). -/
def attachedExtension (left right : Option Instr) : Option (BitVec 23) :=
  match left.bind immrValue with
  | some v => some v
  | none => right.bind immlValue

/-- An instruction may take an extension (30 R209). -/
def takesExtension (i : Option Instr) : Bool :=
  match i with
  | some j => (opInfo j).extendable
  | none => false

/-- The operation an extension extends exists in the bundle and can be extended (30 R222). -/
def extensionPlaced (left : Option Instr) (i : Instr) (right : Option Instr) : Bool :=
  ((immrValue i).isNone || takesExtension right) && ((immlValue i).isNone || takesExtension left)

/-- No value of a list occurs twice. -/
def distinct {α : Type} [DecidableEq α] : List α → Bool
  | [] => true
  | x :: xs => !xs.contains x && distinct xs

/-- The general registers a bundle writes, R0 apart (30 R225). -/
def destinations (ops : List Instr) : List RegNum :=
  (ops.filterMap fun i => (opInfo i).dest).filter fun d => d != 0#6

/-- The branch registers a bundle writes (30 R225; 92 D14). -/
def branchDestinations (ops : List Instr) : List BrNum := ops.filterMap fun i => (opInfo i).bdest

/-- A bundle holds an operation that user mode cannot execute (30 R228). -/
def holdsPrivileged (ops : List Instr) : Bool := ops.any fun i => (opInfo i).privileged

/-- The address of syllable `k` is an odd word address (30 R200). -/
def oddWord (pc : Word) (k : Nat) : Bool := pc.getLsbD 2 ^^ decide (k % 2 = 1)

/-- The first flaw of a bundle at `pc` whose syllables are all valid operations, if any. -/
def bundleFlaw (pc : Word) (ops : List Instr) : Option BundleFlaw :=
  if ops.tail.any fun i => (opInfo i).firstOnly then some .notFirst
  else if ops.zipIdx.any fun x => (opInfo x.1).multiply && !oddWord pc x.2 then some .multiplyAtEvenWord
  else if ops.zipIdx.any fun x => isExtension x.1 && oddWord pc x.2 then some .extensionAtOddWord
  else if (withNeighbours none ops).any fun x => !extensionPlaced x.1 x.2.1 x.2.2 then some .orphanExtension
  else if (withNeighbours none ops).any fun x =>
      (x.1.bind immrValue).isSome && (x.2.2.bind immlValue).isSome then some .twoExtensions
  else if 1 < (ops.filter fun i => (opInfo i).loadStore).length then some .twoLoadStores
  else if !distinct (destinations ops) then some .duplicateDestination
  else if !distinct (branchDestinations ops) then some .duplicateBranchDestination
  else if ops.any fun i => !i.wf then some .linkDestination
  else if 1 < ops.length && ops.any fun i => (opInfo i).alone then some .notAlone
  else none

/-- The operations of a list of syllables, or the reason the first invalid one is invalid. -/
def decodeAll : List Word → Except DecodeError (List Instr)
  | [] => .ok []
  | w :: ws =>
    match decodeSyllable w with
    | .reject e => .error e
    | .ok i =>
      match decodeAll ws with
      | .error e => .error e
      | .ok is => .ok (i :: is)

/-- A bundle is a list of syllables of which the last has its stop bit (30 R201, R217). -/
def endsWithStop (ws : List Word) : Bool :=
  match ws.getLast? with
  | some w => stopBit w
  | none => false

/-- Decode the bundle at `pc`: its operations if it is legal, else its first flaw (30 R216). -/
def decodeBundle (pc : Word) (ws : List Word) : Except BundleFlaw (List Instr) :=
  if !endsWithStop ws then .error .noStop
  else
    match decodeAll ws with
    | .error e => .error (.invalidSyllable e)
    | .ok ops =>
      match bundleFlaw pc ops with
      | some flaw => .error flaw
      | none => .ok ops

/-- The operations of a bundle with their extensions attached (30 R208). -/
def attachExtensions (ops : List Instr) : List (Instr × Option (BitVec 23)) :=
  (withNeighbours none ops).map fun x => (x.2.1, attachedExtension x.1 x.2.2)

end Sys2Proof.Machine
end

