-- ==== Sys2Proof/Machine/Fetch.lean ====
section
/-! DEFINITION. Instruction fetch (20_memory.md rules R137, R175; 30_encoding.md rules R201, R202), and the placing of
one instruction where the next step fetches it. -/

namespace Sys2Proof.Machine

/-- A word of physical memory as an instruction fetch reads it; `none` is a bus error: a device register cannot be
fetched, the debug ROM can (20 R177; assumption 35). -/
def State.fetchPhysical (s : State) (pa : Word) : Option Word :=
  if inPeripheralBlock s.cfg pa then
    match periphAt s.cfg pa with
    | some (.rom n) => some (romWord s.cfg n)
    | _ => none
  else if busReadError s.cfg pa then none
  else some (s.mem.load s.cfg.bigEndian pa .word)

/-- The word at virtual address `a`, whether or not it may be executed; `none` if the address has no single translation
or the bus read fails. -/
def State.syllableWord (s : State) (a : Word) : Option Word :=
  if s.noTranslation a || s.multiMapping a then none else s.fetchPhysical (s.translate a)

/-- The exception the fetch of the syllable at `a` raises (20 R137, R175). -/
def State.fetchFault (s : State) (a : Word) : Option Raised :=
  if s.noTranslation a || s.multiMapping a || s.execViolation a then some (s.raiseItlb a)
  else
    match s.syllableWord a with
    | some _ => none
    | none => some { cause := .stbusIcError }

/-- A fault of a later syllable counts after the syllable at `a`, whose word is not known: an ITLB of a later syllable
never decides, and whether the bundle goes on to a bus error is open (assumption 32). -/
def State.countsAfterUnknown (s : State) (a : Word) (later : Raised) : Bool :=
  later.cause != .stbusIcError || Config.bundleGoesOn s.oracle a

/-- The exceptions that the fetch of at most `n` syllables from `a` on raises, lowest syllable first: every syllable up to
the one with a stop bit is checked, also after a syllable that may not be executed (30 R201; 60 R521; 70 R720). Nothing
can take precedence over a bus error, so none is looked for after one. -/
def State.fetchFaultsFrom (s : State) (a : Word) : Nat → List Raised
  | 0 => []
  | n + 1 =>
    match s.fetchFault a, s.syllableWord a with
    | fault, some w => fault.toList ++ if stopBit w then [] else s.fetchFaultsFrom (a + 4#32) n
    | some r, none =>
      r :: if r.cause = .stbusIcError then [] else (s.fetchFaultsFrom (a + 4#32) n).filter (s.countsAfterUnknown a)
    | none, none => []

/-- The words of at most `n` syllables from `a` on, up to the one with a stop bit. -/
def State.wordsFrom (s : State) (a : Word) : Nat → List Word
  | 0 => []
  | n + 1 =>
    match s.syllableWord a with
    | some w => w :: if stopBit w then [] else s.wordsFrom (a + 4#32) n
    | none => []

/-- Every exception the fetch of the bundle at the PC raises, one to four syllables (30 R200, R217; 92 D13). -/
def State.fetchFaults (s : State) : List Raised := s.fetchFaultsFrom s.pc 4

/-- Fetch the bundle at the PC: its words, or the exception of highest priority among those of its syllables, the lowest
syllable's where two raise ITLB (20 R137; 60 R520). -/
def State.fetchBundle (s : State) : Except Raised (List Word) :=
  match highestPriority s.fetchFaults with
  | some r => .error r
  | none => .ok (s.wordsFrom s.pc 4)

/-- Store a word where the fetch at virtual address `a` reads it. -/
def State.placeWord (s : State) (a w : Word) : State :=
  { s with mem := s.mem.store s.cfg.bigEndian (s.translate a) .word w }

/-- The syllable with its stop bit set. -/
def withStop (w : Word) : Word := w ||| 0x80000000#32

/-- Make one instruction the whole of the next bundle (assumption 30): its stop bit is set; a multiply goes to an odd
word address (30 R220); an immediate extension, which is no bundle by itself, is given an extendable nop beside it
(30 R221, R222). -/
def State.placeInstr (s : State) (w : Word) : State :=
  match decodeSyllable (withStop w) with
  | .ok (.imml _) =>
    let s' := s.setPc (s.pc ||| 4#32)
    (s'.placeWord s'.pc 0x08000000#32).placeWord (s'.pc + 4#32) (withStop w)
  | .ok (.immr _) =>
    let s' := s.setPc (s.pc &&& ~~~4#32)
    (s'.placeWord s'.pc (w &&& 0x7FFFFFFF#32)).placeWord (s'.pc + 4#32) 0x88000000#32
  | .ok i =>
    let s' := if (opInfo i).multiply then s.setPc (s.pc ||| 4#32) else s
    s'.placeWord s'.pc (withStop w)
  | .reject _ => s.placeWord s.pc (withStop w)

/-- `placeInstr` of the instruction whose `nbits` low bits are those of `w`, every other bit being zero. -/
def State.placeTableWord (s : State) (nbits w : Nat) : State := s.placeInstr (BitVec.ofNat 32 (w % 2 ^ nbits))

end Sys2Proof.Machine
end

