-- ==== Sys2Proof/Machine/Sequencer.lean ====
section
/-! DEFINITION. One step of the machine (70_reset_and_hazards.md rule R720, 60_exceptions.md rule R521). -/

namespace Sys2Proof.Machine

/-- Begin a bundle of `n` syllables: `n - 1` operations follow the first. -/
def State.openBundle (s : State) (n : Nat) : State :=
  { s with bundle := { words := n, toIssue := n - 1, ext := none, pending := [] } }

/-- Attach an extension to the next operation (30 R208). -/
def State.attach (s : State) (e : Option (BitVec 23)) : State := { s with bundle := { s.bundle with ext := e } }

/-- Have every operation of a bundle evaluated, in syllable order; the last one finishes the bundle. -/
def issueAll : List (Instr × Option (BitVec 23)) → State → Answer
  | [], s => .next s
  | (i, e) :: rest, s =>
    match exec i (s.attach e) with
    | .next t => issueAll rest t
    | .fault r => .fault r
    | .refused r => .refused r

/-- Run the legal bundle `ops` at the PC. -/
def State.runBundle (s : State) (ops : List Instr) : Answer :=
  issueAll (attachExtensions ops) (s.openBundle ops.length)

/-- Run the bundle of the fetched syllables: ILL_INST, before any operation is evaluated, if it is illegal (30 R216) or
holds a privileged operation in user mode (30 R228; 70 R720). -/
def State.runSyllables (s : State) (ws : List Word) : Answer :=
  match decodeBundle s.pc ws with
  | .error _ => .next (s.takeException { cause := .illInst })
  | .ok ops =>
    if s.userMode && holdsPrivileged ops then .next (s.takeException { cause := .illInst }) else s.runBundle ops

/-- The step at a bundle boundary whose environment events have happened (60 R521): the debug interrupt first, then the
exception of highest priority among those of the boundary and of the fetch, else the bundle. -/
def State.runBoundary (s : State) : Answer :=
  if s.debugAccepted then .next s.enterDebug
  else
    match s.fetchBundle with
    | .error r =>
      .next (s.takeException ((highestPriority (s.boundaryCauses ++ [r])).getD r))
    | .ok ws =>
      match highestPriority s.boundaryCauses with
      | some r => .next (s.takeException r)
      | none => s.runSyllables ws

/-- One step: the environment's events, then one bundle, one trap entry or one cycle of an SDI stall. -/
def cycle (s : State) : Answer := s.boundary.runBoundary

end Sys2Proof.Machine
end

