-- ==== Sys2Proof/Machine/Step.lean ====
section
/-! DEFINITION. The step of the machine, and an instruction placed where it is fetched next. -/

namespace Sys2Proof.Machine

/-- One step (70 R720; Sys2Proof/Machine/Sequencer.lean). -/
def step (s : State) : Host.Outcome State Fault Refusal := cycle s

/-- The state with an instruction stored where the next step fetches it (Sys2Proof/Machine/Fetch.lean;
assumption 30). -/
def State.withFetchWord (s : State) (nbits w : Nat) : State := s.placeTableWord nbits w

end Sys2Proof.Machine
end

