-- ==== Sys2Proof/Safety.lean ====
section
/-! DEFINITION. What the claims speak of: the invariant of the machine, what a state leaves as it was, and where an
operation completes. -/

namespace Sys2Proof.Machine

/-- What holds of every state between bundles: memory is in canonical form (assumption 8), the PC is a word address
(10 R21), the reserved bits of the PSW (10 R30) and of TLB_EXCAUSE (10 R68) are 0, no bundle is half evaluated
(assumption 1). -/
structure State.Inv (s : State) : Prop where
  memory : s.mem.wf = true
  pcAligned : alignDown s.pc = s.pc
  pswReserved : s.psw &&& ~~~0x131F#32 = 0#32
  tlbExcauseReserved : s.mmu.tlbExcause &&& ~~~0x001F00FF#32 = 0#32
  betweenBundles : s.bundle = {}

/-- What holds of the debug support unit: an event is not both unsent and unacknowledged, and the TAPLink variant has
no acknowledgement and an 8-bit DSR2 (61 R667, R668). -/
structure State.DsuInv (s : State) : Prop where
  exclusive : (s.dsu.outputPending && s.dsu.eventAckPending) = false
  tapLinkAck : s.cfg.debugVariant = .tapLink → s.dsu.eventAckPending = false
  tapLinkByte : s.cfg.debugVariant = .tapLink → s.dsu.dsr2.extractLsb' 8 24 = 0#24

/-- The next operation is the only one of its bundle that has an effect: nothing is pending and none follows. The
bundle's length and the extension attached to the operation are free. -/
def State.alone (s : State) : Prop := s.bundle.toIssue = 0 ∧ s.bundle.pending = []

/-- The operation answers a next state, of which `P` holds. -/
def Completes (i : Instr) (s : State) (P : State → Prop) : Prop := ∃ t, exec i s = .next t ∧ P t

/-- No trap, stall or environment event is due at the boundary before the next step. -/
structure State.quiet (s : State) : Prop where
  noInputs : s.inputs = []
  noDebug : s.dbgPending = false
  noTrigger : (s.dsu.triggerEnable && s.pins.triggerIn) = false
  noBusError : s.dcError = none
  noInterrupt : s.interruptAccepted = false
  noBreakpoint : s.ibreakHit s.pc = false

/-- `t` differs from `s` only in general registers, branch registers and memory, in the PC, in the counters of the
performance monitor, and in the model's own fields and the idle flag. -/
structure KeepsSystem (s t : State) : Prop where
  cfg : t.cfg = s.cfg
  psw : t.psw = s.psw
  trap : t.trap = s.trap
  mmu : t.mmu = s.mmu
  brk : t.brk = s.brk
  pmControl : t.pm.enb = s.pm.enb ∧ t.pm.idle = s.pm.idle ∧ t.pm.event = s.pm.event
  /-- with counting off the counters stay (61 R680) -/
  pmCounters : s.pm.enb = false → t.pm = s.pm
  sdi : t.sdi = s.sdi
  intc : t.intc = s.intc
  timers : t.timers = s.timers
  dsu : t.dsu = s.dsu
  pins : t.pins = s.pins
  dbgPending : t.dbgPending = s.dbgPending
  dcError : t.dcError = s.dcError
  inputs : t.inputs = s.inputs
  toHost : t.toHost = s.toHost
  bundle : t.bundle = {}

/-- Every byte of memory reads as before. -/
def KeepsMemory (s t : State) : Prop := ∀ a : Nat, t.mem.read a = s.mem.read a

/-- Every general register but `d` reads as before. -/
def KeepsGprsBut (d : RegNum) (s t : State) : Prop := ∀ r : RegNum, r ≠ d → t.gpr r = s.gpr r

/-- Every general register reads as before. -/
def KeepsGprs (s t : State) : Prop := ∀ r : RegNum, t.gpr r = s.gpr r

/-- Every branch register but `b` reads as before. -/
def KeepsBranchesBut (b : BrNum) (s t : State) : Prop := ∀ c : BrNum, c ≠ b → t.br c = s.br c

/-- Every branch register reads as before. -/
def KeepsBranches (s t : State) : Prop := ∀ c : BrNum, t.br c = s.br c

/-- What a register reads after `v` is written to it: R0 discards the write (10 R23). -/
def written (d : RegNum) (v : Word) : Word := if d = 0#6 then 0#32 else v

/-- The state between bundles in which an operation that writes general register `d` completes: `d` holds `v`, the PC is
past the bundle, and nothing else changed. -/
structure WritesGpr (d : RegNum) (v : Word) (s t : State) : Prop where
  result : t.gpr d = written d v
  others : KeepsGprsBut d s t
  branches : KeepsBranches s t
  pc : t.pc = alignDown (s.nextSeqPc s.bundle.words)
  memory : KeepsMemory s t
  system : KeepsSystem s t

/-- As `WritesGpr`, for branch register `b`. -/
structure WritesBranch (b : BrNum) (c : Bool) (s t : State) : Prop where
  result : t.br b = c
  others : KeepsBranchesBut b s t
  gprs : KeepsGprs s t
  pc : t.pc = alignDown (s.nextSeqPc s.bundle.words)
  memory : KeepsMemory s t
  system : KeepsSystem s t

/-- As `WritesGpr`, for an operation that writes a general and a branch register. -/
structure WritesGprBranch (d : RegNum) (v : Word) (b : BrNum) (c : Bool) (s t : State) : Prop where
  gprResult : t.gpr d = written d v
  brResult : t.br b = c
  otherGprs : KeepsGprsBut d s t
  otherBranches : KeepsBranchesBut b s t
  pc : t.pc = alignDown (s.nextSeqPc s.bundle.words)
  memory : KeepsMemory s t
  system : KeepsSystem s t

/-- The operation only moves on to the next bundle. -/
structure OnlyAdvances (s t : State) : Prop where
  gprs : KeepsGprs s t
  branches : KeepsBranches s t
  pc : t.pc = alignDown (s.nextSeqPc s.bundle.words)
  memory : KeepsMemory s t
  system : KeepsSystem s t

/-- The operation only moves the PC to `target`. -/
structure OnlyJumps (target : Word) (s t : State) : Prop where
  gprs : KeepsGprs s t
  branches : KeepsBranches s t
  pc : t.pc = alignDown target
  memory : KeepsMemory s t
  system : KeepsSystem s t

/-- The operation jumps to `target` and writes the address of the next bundle to R63. -/
structure CallsTo (target : Word) (s t : State) : Prop where
  link : t.gpr linkReg = s.nextSeqPc s.bundle.words
  others : KeepsGprsBut linkReg s t
  branches : KeepsBranches s t
  pc : t.pc = alignDown target
  memory : KeepsMemory s t
  system : KeepsSystem s t

/-- A cycle of an SDI stall: the bundle at PC waits, and nothing changes but time (61 R648). -/
structure Waits (s t : State) : Prop where
  gprs : KeepsGprs s t
  branches : KeepsBranches s t
  pc : t.pc = s.pc
  memory : KeepsMemory s t
  system : KeepsSystem s t
  stalled : t.sdiStalled = true

/-- The machine takes the exception `cause` with EXADDRESS `addr` at the bundle at PC (60 R506, R507; that the low two
bits of HANDLER_PC do not reach the PC is decision D20: assumption 34). -/
structure Traps (cause : Cause) (addr : Word) (s t : State) : Prop where
  excauseno : t.trap.excauseno.toNat = cause.number
  exaddress : t.trap.exaddress = addr
  savedPsw : t.trap.savedPsw = s.psw
  savedPc : t.trap.savedPc = s.pc
  savedSaved : t.trap.savedSavedPc = s.trap.savedSavedPc ∧ t.trap.savedSavedPsw = s.trap.savedSavedPsw
  handlerPc : t.trap.handlerPc = s.trap.handlerPc
  scratch : t.trap.scratch1 = s.trap.scratch1 ∧ t.trap.scratch2 = s.trap.scratch2
    ∧ t.trap.scratch3 = s.trap.scratch3 ∧ t.trap.scratch4 = s.trap.scratch4
  psw : t.psw = pswOnException s.psw
  pc : t.pc = alignDown s.trap.handlerPc
  gprs : t.regs = s.regs
  branches : t.branch = s.branch
  memory : t.mem = s.mem
  sdi : t.sdi = s.sdi
  breakpoints : t.brk = s.brk
  devices : t.intc = s.intc ∧ t.timers = s.timers ∧ t.dsu = s.dsu
  mmuOther : { t.mmu with tlbExcause := s.mmu.tlbExcause } = s.mmu
  tlbExcause : cause ≠ .itlb → cause ≠ .dtlb → t.mmu.tlbExcause = s.mmu.tlbExcause
  pmControl : t.pm.enb = s.pm.enb ∧ t.pm.idle = s.pm.idle ∧ t.pm.event = s.pm.event
  pmCounters : s.pm.enb = false → t.pm = s.pm
  outside : t.cfg = s.cfg ∧ t.pins = s.pins ∧ t.inputs = s.inputs ∧ t.toHost = s.toHost ∧ t.dbgPending = s.dbgPending
  bundle : t.bundle = {}

/-- The operation takes the exception `cause` with EXADDRESS `addr`. -/
def TrapsOn (i : Instr) (s : State) (cause : Cause) (addr : Word) : Prop := Completes i s (Traps cause addr s)

/-- In a bundle of `words` syllables whose state before it is `s`, operation `i` with the extension `e` has the effect
`eff`, whatever the effects `pending` of the operations before it: while `n` more follow it only adds `eff` to those, and
as the last it finishes the bundle with them (60 R505; 70 R720, R721). -/
structure State.Evaluates (s : State) (words : Nat) (i : Instr) (e : Option (BitVec 23)) (eff : Effect) : Prop where
  notLast : ∀ n pending,
    exec i { s with bundle := { words := words, toIssue := n + 1, ext := e, pending := pending } }
      = .next { s with bundle := { words := words, toIssue := n, ext := none, pending := pending ++ [eff] } }
  last : ∀ pending, exec i { s with bundle := { words := words, toIssue := 0, ext := e, pending := pending } }
      = .next (State.finishBundle { s with bundle := { words := words } } (pending ++ [eff]))

/-- The load into `d` meets a bus error: an error is pending, `d` holds some value, and nothing else changed (20 R176;
assumption 13). -/
def LoadMeetsBusError (i : Instr) (d : RegNum) (s : State) : Prop :=
  Completes i s (fun t => t.dcError.isSome = true ∧ ∃ v, WritesGpr d v s { t with dcError := s.dcError })

/-- The store meets a bus error that leaves memory as it was: an error is pending and nothing else changed (20 R176). -/
def StoreMeetsBusError (i : Instr) (s : State) : Prop :=
  Completes i s (fun t => t.dcError.isSome = true ∧ OnlyAdvances s { t with dcError := s.dcError })

/-! ### What the performance monitor counts -/

/-- The event numbers whose counts the sequential execution decides (61 R684), and the reserved ones, which never count. -/
def decidedEvents : List Nat := [10, 11, 12, 13, 14, 15, 18, 21, 28, 29, 30, 31]

/-- Counter `k`, if it is programmed with a decided event, advances by one exactly when that event is among `events`. -/
def CountsIn (k : Fin 4) (events : List Nat) (s t : State) : Prop :=
  (s.pm.event.get k).toNat ∈ decidedEvents →
    t.pm.cnt.get k = if (s.pm.event.get k).toNat ∈ events then s.pm.cnt.get k + 1#32 else s.pm.cnt.get k

/-- Each counter advances by one exactly when its event is among `events`. -/
def Counts (events : List Nat) (s t : State) : Prop := ∀ k : Fin 4, CountsIn k events s t

/-! ### Where a data address leads -/

/-- UTLB entry `k` maps virtual address `a` (20 R132). -/
def State.entryMaps (s : State) (a : Word) (k : Fin 64) : Prop := (s.mmu.utlb.get k).maps s.mmu.asid a = true

/-- Exactly entry `k` maps `a`. -/
def State.onlyMaps (s : State) (a : Word) (k : Fin 64) : Prop := ∀ j, s.entryMaps a j ↔ j = k

/-- `a` leads to physical address `pa`: untranslated with the TLB off, else by the one entry that maps it, whose
permission bit `bit` of the current mode is set (1 read, 2 write; a write also needs DIRTY: 20 R131 to R135). -/
def State.leadsTo (s : State) (a pa : Word) (bit : Nat) : Prop :=
  (s.tlbEnable = false ∧ pa = a)
  ∨ (s.tlbEnable = true ∧ ∃ k, s.onlyMaps a k ∧ pa = (s.mmu.utlb.get k).translate a
      ∧ (s.prot (s.mmu.utlb.get k)).getLsbD bit = true ∧ (bit = 2 → (s.mmu.utlb.get k).dirty = true))

/-- A data access of `w` at `a` reaches ordinary memory at `pa`: no data breakpoint, not control register space,
aligned, translated or untranslated to an address outside the peripheral block. -/
structure State.reaches (s : State) (w : Width) (a pa : Word) (bit : Nat) : Prop where
  noBreak : s.dbreakHit a = false
  notCreg : isCRegSpace a = false
  aligned : w.misaligned a = false
  leads : s.leadsTo a pa bit
  notPeripheral : inPeripheralBlock s.cfg pa = false

/-- The TLB turns an access at `a` away that needs permission bit `bit`: no entry, two entries, or the one entry
without the permission (a write also needs DIRTY: 20 R135). -/
def State.tlbRefuses (s : State) (a : Word) (bit : Nat) : Prop :=
  s.tlbEnable = true ∧
  ((∀ k, ¬ s.entryMaps a k) ∨ (∃ j k, j ≠ k ∧ s.entryMaps a j ∧ s.entryMaps a k)
    ∨ ∃ k, s.onlyMaps a k
      ∧ ((s.prot (s.mmu.utlb.get k)).getLsbD bit = false ∨ bit = 2 ∧ (s.mmu.utlb.get k).dirty = false))

/-- An instruction fetch at physical address `pa` yields the word `w`: that of ordinary memory that answers, or of the
debug ROM (20 R137, R177; 10 R85). -/
def State.fetchYields (s : State) (pa w : Word) : Prop :=
  (inPeripheralBlock s.cfg pa = false ∧ busReadError s.cfg pa = false ∧ w = s.mem.load s.cfg.bigEndian pa .word)
  ∨ (inPeripheralBlock s.cfg pa = true ∧ ∃ n, periphAt s.cfg pa = some (.rom n) ∧ w = romWord s.cfg n)

/-- An instruction fetch at `pa` is a bus error: ordinary memory answers with one (20 R175), or `pa` is an address of the
peripheral block outside the debug ROM (assumption 35). -/
def State.fetchFails (s : State) (pa : Word) : Prop :=
  (inPeripheralBlock s.cfg pa = false ∧ busReadError s.cfg pa = true)
  ∨ (inPeripheralBlock s.cfg pa = true ∧ ∀ n, periphAt s.cfg pa ≠ some (.rom n))

/-- The syllable at `a` is followed by another: its address is untranslated, or translated by one entry whatever the
entry's permissions, and the fetch there yields a word whose stop bit is clear (30 R201). -/
def State.continuesAt (s : State) (a : Word) : Prop :=
  ∃ pa w, ((s.tlbEnable = false ∧ pa = a)
      ∨ (s.tlbEnable = true ∧ ∃ k, s.onlyMaps a k ∧ pa = (s.mmu.utlb.get k).translate a))
    ∧ s.fetchYields pa w ∧ stopBit w = false

/-- A store of the low bytes of `v` at `pa` in the processor's byte order, and nothing else but the PC (20 R103,
R125). -/
structure StoresTo (pa : Word) (w : Width) (v : Word) (s t : State) : Prop where
  bytes : ∀ k, k < w.bytes →
    t.mem.read (byteAddr pa k) = v.extractLsb' (8 * (if s.cfg.bigEndian then w.bytes - 1 - k else k)) 8
  others : ∀ a : Nat, (∀ k, k < w.bytes → a ≠ byteAddr pa k) → t.mem.read a = s.mem.read a
  canonical : t.mem.wf = true
  gprs : KeepsGprs s t
  branches : KeepsBranches s t
  pc : t.pc = alignDown (s.nextSeqPc s.bundle.words)
  system : KeepsSystem s t

/-! ### Encodings, written from the formats of 30 R206 -/

/-- Int3R and Mul64R. -/
def regWord (stop b26 : BitVec 1) (opc : BitVec 5) (d s2 s1 : RegNum) : Word :=
  stop ++ 0#1 ++ 0b00#2 ++ 0#1 ++ b26 ++ opc ++ 0#3 ++ d ++ s2 ++ s1

/-- Int3I, Monadic and Mul64I. -/
def immWord (stop b26 : BitVec 1) (opc : BitVec 5) (i : BitVec 9) (d s1 : RegNum) : Word :=
  stop ++ 0#1 ++ 0b00#2 ++ 1#1 ++ b26 ++ opc ++ i ++ d ++ s1

/-- The Memory format: bits 27:23, ISRC2, bits 11:6 and SRC1. -/
def memoryWord (stop : BitVec 1) (opc : BitVec 5) (i : BitVec 9) (r s1 : RegNum) : Word :=
  stop ++ 0#1 ++ 0b10#2 ++ opc ++ 0b00#2 ++ i ++ r ++ s1

/-! ### What the two and four forms of an operation do -/

/-- An operation with a register and an immediate form that writes `f` of its operands, and nothing else, to its
destination: its two encodings (bit 26 and OPC given) and its two results. -/
structure RegImmForms (b26 : BitVec 1) (opc : BitVec 5) (reg : RegNum → RegNum → RegNum → Instr)
    (imm : RegNum → RegNum → BitVec 9 → Instr) (f : Word → Word → Word) : Prop where
  regEncoding : ∀ stop d s2 s1, decodeSyllable (regWord stop b26 opc d s2 s1) = .ok (reg d s1 s2)
  immEncoding : ∀ stop i d s1, decodeSyllable (immWord stop b26 opc i d s1) = .ok (imm d s1 i)
  regResult : ∀ (s : State) d s1 s2, s.alone →
    Completes (reg d s1 s2) s (WritesGpr d (f (s.gpr s1) (s.gpr s2)) s)
  immResult : ∀ (s : State) d s1 i, s.alone →
    Completes (imm d s1 i) s (WritesGpr d (f (s.gpr s1) (s.imm i)) s)

/-- A Monadic operation with sub-opcode `sub`. -/
structure MonadicForm (sub : BitVec 9) (op : RegNum → RegNum → Instr) (f : Word → Word) : Prop where
  encoding : ∀ stop d s1, decodeSyllable (immWord stop 0#1 0b01110#5 sub d s1) = .ok (op d s1)
  result : ∀ (s : State) d s1, s.alone → Completes (op d s1) s (WritesGpr d (f (s.gpr s1)) s)

/-- The four forms of a compare or logical operation: general or branch register destination, register or immediate
second operand (41 R300). -/
structure CompareForms (opc : BitVec 4) (rr : RegNum → RegNum → RegNum → Instr)
    (br : BrNum → RegNum → RegNum → Instr) (ri : RegNum → RegNum → BitVec 9 → Instr)
    (bi : BrNum → RegNum → BitVec 9 → Instr) (c : Word → Word → Bool) : Prop where
  rrEncoding : ∀ stop d s2 s1, decodeSyllable (regWord stop 1#1 (0#1 ++ opc) d s2 s1) = .ok (rr d s1 s2)
  brEncoding : ∀ (stop : BitVec 1) (b : BrNum) (s2 s1 : RegNum),
    decodeSyllable (stop ++ 0#1 ++ 0b00#2 ++ 0b011#3 ++ opc ++ b ++ 0#6 ++ s2 ++ s1 : Word) = .ok (br b s1 s2)
  riEncoding : ∀ stop i d s1, decodeSyllable (immWord stop 1#1 (0#1 ++ opc) i d s1) = .ok (ri d s1 i)
  biEncoding : ∀ stop i (b : BrNum) s1,
    decodeSyllable (immWord stop 1#1 (1#1 ++ opc) i (0#3 ++ b) s1) = .ok (bi b s1 i)
  rrResult : ∀ (s : State) d s1 s2, s.alone →
    Completes (rr d s1 s2) s (WritesGpr d (if c (s.gpr s1) (s.gpr s2) then 1#32 else 0#32) s)
  brResult : ∀ (s : State) b s1 s2, s.alone →
    Completes (br b s1 s2) s (WritesBranch b (c (s.gpr s1) (s.gpr s2)) s)
  riResult : ∀ (s : State) d s1 i, s.alone →
    Completes (ri d s1 i) s (WritesGpr d (if c (s.gpr s1) (s.imm i) then 1#32 else 0#32) s)
  biResult : ∀ (s : State) b s1 i, s.alone →
    Completes (bi b s1 i) s (WritesBranch b (c (s.gpr s1) (s.imm i)) s)

/-- A normal load of `w` from ordinary memory, the loaded value passed through `extend`. -/
structure LoadForm (opc : BitVec 5) (op : RegNum → RegNum → BitVec 9 → Instr) (w : Width) (extend : Word → Word) :
    Prop where
  encoding : ∀ stop i d s1, decodeSyllable (memoryWord stop opc i d s1) = .ok (op d s1 i)
  result : ∀ (s : State) d s1 i pa, s.alone → s.reaches w (s.gpr s1 + s.imm i) pa 1 →
    busReadError s.cfg pa = false →
    Completes (op d s1 i) s (WritesGpr d (extend (s.mem.load s.cfg.bigEndian pa w)) s)

/-- A store of `w` to ordinary memory. -/
structure StoreForm (opc : BitVec 5) (op : RegNum → BitVec 9 → RegNum → Instr) (w : Width) : Prop where
  encoding : ∀ stop i s2 s1, decodeSyllable (memoryWord stop opc i s2 s1) = .ok (op s1 i s2)
  result : ∀ (s : State) s1 i s2 pa, s.alone → s.mem.wf = true → s.reaches w (s.gpr s1 + s.imm i) pa 2 →
    busWriteError s.cfg pa = false →
    Completes (op s1 i s2) s (StoresTo pa w (s.gpr s2) s)

/-- A dismissible load of `w` (20 R122, R123, R180): where it reads, where it returns 0, where it traps. `a` is the
effective address. -/
structure DismissibleForm (opc : BitVec 5) (op : RegNum → RegNum → BitVec 9 → Instr) (w : Width)
    (extend : Word → Word) : Prop where
  encoding : ∀ stop i d s1, decodeSyllable (memoryWord stop opc i d s1) = .ok (op d s1 i)
  reads : ∀ (s : State) d s1 i pa, s.alone → s.reaches w (s.gpr s1 + s.imm i) pa 1 → s.scuHit pa = true →
    busReadError s.cfg pa = false →
    Completes (op d s1 i) s (WritesGpr d (extend (s.mem.load s.cfg.bigEndian pa w)) s)
  zeroOutsideScu : ∀ (s : State) d s1 i pa, s.alone → s.dbreakHit (s.gpr s1 + s.imm i) = false →
    isCRegSpace (s.gpr s1 + s.imm i) = false → w.misaligned (s.gpr s1 + s.imm i) = false →
    s.leadsTo (s.gpr s1 + s.imm i) pa 1 → s.scuHit pa = false →
    Completes (op d s1 i) s (WritesGpr d 0#32 s)
  zeroCreg : ∀ (s : State) d s1 i, s.alone → s.dbreakHit (s.gpr s1 + s.imm i) = false →
    isCRegSpace (s.gpr s1 + s.imm i) = true → Completes (op d s1 i) s (WritesGpr d 0#32 s)
  zeroMisaligned : ∀ (s : State) d s1 i pa, s.alone → s.dbreakHit (s.gpr s1 + s.imm i) = false →
    isCRegSpace (s.gpr s1 + s.imm i) = false → w.misaligned (s.gpr s1 + s.imm i) = true →
    s.psw.getLsbD 4 = false → s.leadsTo (s.gpr s1 + s.imm i) pa 1 →
    Completes (op d s1 i) s (WritesGpr d 0#32 s)
  zeroUnmapped : ∀ (s : State) d s1 i, s.alone → s.dbreakHit (s.gpr s1 + s.imm i) = false →
    isCRegSpace (s.gpr s1 + s.imm i) = false →
    (w.misaligned (s.gpr s1 + s.imm i) = true → s.psw.getLsbD 4 = false) →
    s.psw.getLsbD 2 = true → s.psw.getLsbD 3 = false → (∀ k, ¬ s.entryMaps (s.gpr s1 + s.imm i) k) →
    Completes (op d s1 i) s (WritesGpr d 0#32 s)
  zeroUnreadable : ∀ (s : State) d s1 i k, s.alone → s.dbreakHit (s.gpr s1 + s.imm i) = false →
    isCRegSpace (s.gpr s1 + s.imm i) = false →
    (w.misaligned (s.gpr s1 + s.imm i) = true → s.psw.getLsbD 4 = false) →
    s.psw.getLsbD 2 = true → s.onlyMaps (s.gpr s1 + s.imm i) k →
    (s.prot (s.mmu.utlb.get k)).getLsbD 1 = false → Completes (op d s1 i) s (WritesGpr d 0#32 s)
  trapsDbreak : ∀ (s : State) d s1 i, s.alone → s.dbreakHit (s.gpr s1 + s.imm i) = true →
    TrapsOn (op d s1 i) s .dbreak (s.gpr s1 + s.imm i)
  trapsMisaligned : ∀ (s : State) d s1 i, s.alone → s.dbreakHit (s.gpr s1 + s.imm i) = false →
    isCRegSpace (s.gpr s1 + s.imm i) = false → w.misaligned (s.gpr s1 + s.imm i) = true →
    s.psw.getLsbD 4 = true → TrapsOn (op d s1 i) s .misalignedTrap (s.gpr s1 + s.imm i)
  trapsDtlb : ∀ (s : State) d s1 i, s.alone → s.dbreakHit (s.gpr s1 + s.imm i) = false →
    isCRegSpace (s.gpr s1 + s.imm i) = false →
    (w.misaligned (s.gpr s1 + s.imm i) = true → s.psw.getLsbD 4 = false) → s.psw.getLsbD 2 = true →
    ((∃ j k, j ≠ k ∧ s.entryMaps (s.gpr s1 + s.imm i) j ∧ s.entryMaps (s.gpr s1 + s.imm i) k)
      ∨ (s.psw.getLsbD 3 = true ∧ ∀ k, ¬ s.entryMaps (s.gpr s1 + s.imm i) k)) →
    TrapsOn (op d s1 i) s .dtlb (s.gpr s1 + s.imm i)

/-- Where a normal load or a store of `w` at `a` traps, in the order of its checks (43 R440): data breakpoint,
control register space, alignment, TLB. `word` says that the operation is ldw or stw, which alone reach control
registers. -/
structure AccessTraps (i : Instr) (s : State) (w : Width) (a : Word) (bit : Nat) (word : Bool) : Prop where
  dbreak : s.dbreakHit a = true → TrapsOn i s .dbreak a
  part : s.dbreakHit a = false → isCRegSpace a = true → word = false → TrapsOn i s .cregAccessViolation a
  noMapping : s.dbreakHit a = false → isCRegSpace a = true → word = true → cregAt a = none →
    TrapsOn i s .cregNoMapping a
  violation : ∀ r, s.dbreakHit a = false → isCRegSpace a = true → word = true → cregAt a = some r →
    s.userMode = true → (∀ p, (r = .sdiData p ∨ r = .sdiReady p) → (s.sdiPort p).priv ≠ 1#2) →
    TrapsOn i s .cregAccessViolation a
  misaligned : s.dbreakHit a = false → isCRegSpace a = false → w.misaligned a = true →
    TrapsOn i s .misalignedTrap a
  dtlb : s.dbreakHit a = false → isCRegSpace a = false → w.misaligned a = false → s.tlbRefuses a bit →
    TrapsOn i s .dtlb a

/-- The word offsets of the PSW, trap and TLB registers (10 R40). -/
def trapRegisterMap : List (Nat × CReg) :=
  [(0xFFF8, CReg.psw), (0xFFF0, .savedPsw), (0xFFE8, .savedPc), (0xFFE0, .handlerPc), (0xFFD8, .excause),
   (0xFFD0, .exaddress), (0xFFC8, .version), (0xFFC0, .savedSavedPsw), (0xFFB8, .savedSavedPc),
   (0xFFB0, .peripheralBase), (0xFFA8, .scratch1), (0xFFA0, .scratch2), (0xFF98, .scratch3), (0xFF90, .scratch4),
   (0xFF88, .excauseno), (0xFF80, .tlbIndex), (0xFF78, .tlbEntry0), (0xFF70, .tlbEntry1), (0xFF68, .tlbEntry2),
   (0xFF60, .tlbEntry3), (0xFF58, .tlbExcause), (0xFF50, .tlbControl), (0xFF48, .tlbReplace), (0xFF40, .tlbAsid)]

/-- The word offsets of the reserved and data breakpoint registers (10 R40). -/
def reservedAndDataBreakMap : List (Nat × CReg) :=
  [(0xFF38, .reserved 7), (0xFF30, .reserved 6), (0xFF28, .reserved 5), (0xFF20, .reserved 4),
   (0xFF18, .reserved 3), (0xFF10, .reserved 2), (0xFF08, .reserved 1), (0xFF00, .reserved 0),
   (0xFE80, .dbreakLower), (0xFE78, .dbreakUpper), (0xFE70, .dbreakControl),
   (0xFE40, .reserved 15), (0xFE38, .reserved 14), (0xFE30, .reserved 13), (0xFE28, .reserved 12),
   (0xFE20, .reserved 11), (0xFE18, .reserved 10), (0xFE10, .reserved 9), (0xFE08, .reserved 8)]

/-- The word offsets of STATE1, the instruction breakpoint and the performance monitor registers (10 R40). -/
def debugAndMonitorMap : List (Nat × CReg) :=
  [(0xFE00, .state1), (0xFDD0, .ibreakLower), (0xFDC8, .ibreakUpper), (0xFDC0, .ibreakControl),
   (0xF800, .pmCr), (0xF808, .pmCnt 0), (0xF810, .pmCnt 1), (0xF818, .pmCnt 2), (0xF820, .pmCnt 3),
   (0xF828, .pmPclk)]

/-- The word offsets of the SDI registers (10 R40). -/
def sdiRegisterMap : List (Nat × CReg) :=
  [(0xE000, .sdiData 0), (0xE400, .sdiData 1), (0xE800, .sdiData 2), (0xEC00, .sdiData 3),
   (0xE008, .sdiReady 0), (0xE408, .sdiReady 1), (0xE808, .sdiReady 2), (0xEC08, .sdiReady 3),
   (0xE010, .sdiControl 0), (0xE410, .sdiControl 1), (0xE810, .sdiControl 2), (0xEC10, .sdiControl 3),
   (0xE018, .sdiCount 0), (0xE418, .sdiCount 1), (0xE818, .sdiCount 2), (0xEC18, .sdiCount 3),
   (0xE020, .sdiTimeout 0), (0xE420, .sdiTimeout 1), (0xE820, .sdiTimeout 2), (0xEC20, .sdiTimeout 3)]

/-- The word offsets of the SCU registers (10 R40). -/
def scuRegisterMap : List (Nat × CReg) :=
  [(0xD000, .scuBase 0), (0xD010, .scuBase 1), (0xD020, .scuBase 2), (0xD030, .scuBase 3),
   (0xD008, .scuLimit 0), (0xD018, .scuLimit 1), (0xD028, .scuLimit 2), (0xD038, .scuLimit 3)]

/-- The bits of each register that a store writes, for the PSW, trap and TLB registers (10 R42 to R66). -/
def trapRegisterMasks : List (CReg × Word) :=
  [(CReg.savedPsw, 0xFFFFFFFF#32), (.savedPc, 0xFFFFFFFF#32), (.handlerPc, 0xFFFFFFFF#32),
   (.exaddress, 0xFFFFFFFF#32), (.savedSavedPsw, 0xFFFFFFFF#32), (.savedSavedPc, 0xFFFFFFFF#32),
   (.scratch1, 0xFFFFFFFF#32), (.scratch2, 0xFFFFFFFF#32), (.scratch3, 0xFFFFFFFF#32),
   (.scratch4, 0xFFFFFFFF#32), (.excauseno, 0x1F#32), (.tlbEntry0, 0x1FFFFFF#32), (.tlbEntry1, 0x7FFFF#32),
   (.tlbEntry2, 0x7FFFF#32), (.tlbExcause, 0x1F00FF#32), (.tlbAsid, 0xFF#32)]

/-- The bits of each register that a store writes, for the breakpoint registers and STATE1 (10 R67 to R73). -/
def debugRegisterMasks : List (CReg × Word) :=
  [(.dbreakLower, 0xFFFFFFFF#32), (.dbreakUpper, 0xFFFFFFFF#32), (.dbreakControl, 0xF#32),
   (.ibreakLower, 0xFFFFFFFF#32), (.ibreakUpper, 0xFFFFFFFF#32), (.ibreakControl, 0xF#32), (.state1, 0x3#32)]

/-- What a load of an SCU, performance monitor or SDI register returns (10 R69, R71, R72; 61 R647, R651). SDIi_READY is
not above the number of transfers that will not stall (61 R646), and either 0 or at least the port's least report
(assumptions 9 and 18). -/
structure DeviceRegisterValues (s : State) : Prop where
  scuBase : ∀ k, (s.cregValue (.scuBase k)).toNat = (s.mmu.scuBase.get k).toNat
  scuLimit : ∀ k, (s.cregValue (.scuLimit k)).toNat = (s.mmu.scuLimit.get k).toNat
  pmEnb : (s.cregValue .pmCr).getLsbD 0 = s.pm.enb
  pmRst : (s.cregValue .pmCr).getLsbD 1 = false
  pmIdle : (s.cregValue .pmCr).getLsbD 2 = s.pm.idle
  pmReserved : (s.cregValue .pmCr).extractLsb' 3 9 = 0#9
  pmEvent : ∀ k : Fin 4, (s.cregValue .pmCr).extractLsb' (12 + 5 * k.val) 5 = s.pm.event.get k
  pmCnt : ∀ k, s.cregValue (.pmCnt k) = s.pm.cnt.get k
  pmPclk : s.cregValue .pmPclk = s.pm.pclk
  sdiControl : ∀ p, (s.cregValue (.sdiControl p)).toNat = (s.sdiPort p).priv.toNat + 4 * (s.pins.sdiReset.get p).toNat
    + 8 * (s.sdiPort p).resetOutput.toNat + 16 * (s.sdiParams p).isInput.toNat + 64 * (s.sdiParams p).isMaster.toNat
    + 128 * (s.sdiPort p).timeoutDisable.toNat
  sdiCount : ∀ p, s.cregValue (.sdiCount p) = (s.sdiPort p).count
  sdiTimeout : ∀ p, s.cregValue (.sdiTimeout p) = (s.sdiPort p).timeout
  sdiReadyInput : ∀ p, s.sdiInReset p = false → (s.sdiParams p).isInput = true →
    (s.cregValue (.sdiReady p)).toNat ≤ (s.sdiPort p).queue.length
  sdiReadyOutput : ∀ p, s.sdiInReset p = false → (s.sdiParams p).isInput = false →
    (s.cregValue (.sdiReady p)).toNat ≤ (s.sdiParams p).depth - (s.sdiPort p).queue.length
  sdiReadyLeast : ∀ p, s.sdiInReset p = false → (s.sdiPort p).queue.length < 2 ^ 32 → (s.sdiParams p).depth < 2 ^ 32 →
    s.cregValue (.sdiReady p) = 0#32 ∨ (s.sdiParams p).readyMin ≤ (s.cregValue (.sdiReady p)).toNat

/-- What a load of a debug support unit register or of a debug ROM word returns (10 R84, R85; 61 R661, R667, R668, R670).
The ROM's words after the first are the parameter's where it lists them, else open (assumption 25). -/
structure DebugRegisterValues (s : State) : Prop where
  version : (s.periphValue (.dsr 0)).toNat
    = s.cfg.dsuVersion.toNat * 2 ^ 24 + 5 * 2 ^ 16 + s.cfg.productId.toNat
  status : (s.periphValue (.dsr 1)).toNat = (s.psw.getLsbD 12).toNat + 2 * s.dsu.supWrite.toNat
    + 4 * s.dsu.userWrite.toNat + 8 * s.cfg.bigEndian.toNat
    + 16 * (if s.cfg.debugVariant = .jtag then s.dsu.eventAckPending.toNat else 0) + 32 * s.dsu.outputPending.toNat
    + 64 * s.pins.triggerIn.toNat + 128 * s.dsu.triggerOut.toNat + 256 * s.dsu.triggerEnable.toNat
    + 2 ^ 16 * s.dsu.swFlags.toNat
  output : s.periphValue (.dsr 2) = s.dsu.dsr2
  general : ∀ n : Fin 29, s.periphValue (.dsr ⟨n.val + 3, by omega⟩) = s.dsu.general.get n
  romFirst : s.periphValue (.rom 0) = 0xB1000000#32
  romListed : ∀ (n : Fin 256) w, n ≠ 0 → s.cfg.debugRom[n.val - 1]? = some w → s.periphValue (.rom n) = w

/-! ### What the bundle rules ask of each operation -/

/-- The general and branch registers each operation writes (30 R225; call counts as a write of R63), and whether it can
be extended (R209), is a multiply (R220), uses the load/store unit (R224), must be first (R219) or alone (R227), or is
privileged (R228). -/
structure OperationProperties : Prop where
  registerForms : ∀ op ∈ [Instr.addR, .subR, .shlR, .shrR, .shruR, .sh1addR, .sh2addR, .sh3addR, .sh4addR, .andR, .andcR,
      .orR, .orcR, .xorR, .maxR, .maxuR, .minR, .minuR, .cmpeqRR, .cmpneRR, .cmpgeRR, .cmpgeuRR, .cmpgtRR, .cmpgtuRR,
      .cmpleRR, .cmpleuRR, .cmpltRR, .cmpltuRR, .andlRR, .nandlRR, .orlRR, .norlRR],
    ∀ d s1 s2, opInfo (op d s1 s2) = { dest := some d }
  immediateForms : ∀ op ∈ [Instr.addI, .subI, .shlI, .shrI, .shruI, .sh1addI, .sh2addI, .sh3addI, .sh4addI, .andI, .andcI,
      .orI, .orcI, .xorI, .maxI, .maxuI, .minI, .minuI, .cmpeqRI, .cmpneRI, .cmpgeRI, .cmpgeuRI, .cmpgtRI, .cmpgtuRI,
      .cmpleRI, .cmpleuRI, .cmpltRI, .cmpltuRI, .andlRI, .nandlRI, .orlRI, .norlRI],
    ∀ d s1 i, opInfo (op d s1 i) = { dest := some d, extendable := true }
  multiplyRegisterForms : ∀ op ∈ [Instr.mullR, .mulluR, .mulhR, .mulhuR, .mulllR, .mullluR, .mullhR, .mullhuR, .mulhhR,
      .mulhhuR, .mulhsR, .mulhhsR, .mullhusR, .mul32R, .mul64hR, .mul64huR, .mulfracR],
    ∀ d s1 s2, opInfo (op d s1 s2) = { dest := some d, multiply := true }
  multiplyImmediateForms : ∀ op ∈ [Instr.mullI, .mulluI, .mulhI, .mulhuI, .mulllI, .mullluI, .mullhI, .mullhuI, .mulhhI,
      .mulhhuI, .mulhsI, .mulhhsI, .mullhusI, .mul32I, .mul64hI, .mul64huI, .mulfracI],
    ∀ d s1 i, opInfo (op d s1 i) = { dest := some d, extendable := true, multiply := true }
  monadicForms : ∀ op ∈ [Instr.sxtb, .sxth, .bswap, .zxth, .clz], ∀ d s1, opInfo (op d s1) = { dest := some d }
  branchRegisterForms : ∀ op ∈ [Instr.cmpeqBR, .cmpneBR, .cmpgeBR, .cmpgeuBR, .cmpgtBR, .cmpgtuBR, .cmpleBR, .cmpleuBR,
      .cmpltBR, .cmpltuBR, .andlBR, .nandlBR, .orlBR, .norlBR],
    ∀ b s1 s2, opInfo (op b s1 s2) = { bdest := some b }
  branchImmediateForms : ∀ op ∈ [Instr.cmpeqBI, .cmpneBI, .cmpgeBI, .cmpgeuBI, .cmpgtBI, .cmpgtuBI, .cmpleBI, .cmpleuBI,
      .cmpltBI, .cmpltuBI, .andlBI, .nandlBI, .orlBI, .norlBI],
    ∀ b s1 i, opInfo (op b s1 i) = { bdest := some b, extendable := true }
  selectRegisterForms : ∀ op ∈ [Instr.slctR, .slctfR], ∀ d c s1 s2, opInfo (op d c s1 s2) = { dest := some d }
  selectImmediateForms : ∀ op ∈ [Instr.slctI, .slctfI],
    ∀ d c s1 i, opInfo (op d c s1 i) = { dest := some d, extendable := true }
  carryForms : ∀ op ∈ [Instr.addcg, .divs], ∀ d b c s1 s2, opInfo (op d b c s1 s2) = { dest := some d, bdest := some b }
  loads : ∀ op ∈ [Instr.ldw, .ldwD, .ldh, .ldhD, .ldhu, .ldhuD, .ldb, .ldbD, .ldbu, .ldbuD],
    ∀ d s1 i, opInfo (op d s1 i) = { dest := some d, extendable := true, loadStore := true }
  stores : ∀ op ∈ [Instr.stw, .sth, .stb], ∀ s1 i s2, opInfo (op s1 i s2) = { extendable := true, loadStore := true }
  addressed : ∀ op ∈ [Instr.pft, .prgadd, .prgset], ∀ s1 i, opInfo (op s1 i) = { extendable := true, loadStore := true }
  prginspg : ∀ s1 i, opInfo (.prginspg s1 i) = { extendable := true, loadStore := true, privileged := true }
  prgins : opInfo .prgins = { alone := true, privileged := true }
  sync : opInfo .sync = { loadStore := true }
  pswForms : ∀ op ∈ [Instr.pswset, .pswclr],
    ∀ s2, opInfo (op s2) = { loadStore := true, firstOnly := true, privileged := true }
  rfi : opInfo .rfi = { loadStore := true, firstOnly := true, privileged := true }
  syscall : ∀ n, opInfo (.syscall n) = { alone := true }
  traps : (∀ n, opInfo (.sbrk n) = {}) ∧ opInfo .breakOp = {}
  extensions : ∀ op ∈ [Instr.imml, .immr], ∀ v, opInfo (op v) = {}
  calls : (∀ o, opInfo (.call o) = { dest := some 63#6, firstOnly := true })
    ∧ opInfo .callLink = { dest := some 63#6, firstOnly := true }
  jumps : (∀ o, opInfo (.goto o) = { firstOnly := true }) ∧ opInfo .gotoLink = { firstOnly := true }
  branches : ∀ op ∈ [Instr.br, .brf], ∀ c o, opInfo (op c o) = { firstOnly := true }

/-! ### The debug support unit's registers from both sides -/

/-- What the store `i` of `v` by the core to DSRn does (61 R667, R668): nothing if the write enable of the current mode
is clear (assumption 27) or to DSR0; it writes the RW fields of DSR1; in DSR2 it writes DATA, and OUTPUT_PENDING as the
variant's rule says; it writes DSR3 to DSR31 whole. Nothing outside the unit changes. -/
structure DsuStores (i : Instr) (n : Fin 32) (v : Word) (s : State) : Prop where
  disabled : (s.userMode = false ∧ s.dsu.supWrite = false) ∨ (s.userMode = true ∧ s.dsu.userWrite = false) →
    Completes i s (OnlyAdvances s)
  version : n = 0 → Completes i s (OnlyAdvances s)
  status : (s.userMode = false ∧ s.dsu.supWrite = true) ∨ (s.userMode = true ∧ s.dsu.userWrite = true) → n = 1 →
    Completes i s (fun t => t.dsu = { s.dsu with
        supWrite := v.getLsbD 1
        userWrite := v.getLsbD 2
        triggerOut := v.getLsbD 7
        triggerEnable := v.getLsbD 8
        swFlags := v.extractLsb' 16 16 }
      ∧ OnlyAdvances s { t with dsu := s.dsu })
  outputTapLink : (s.userMode = false ∧ s.dsu.supWrite = true) ∨ (s.userMode = true ∧ s.dsu.userWrite = true) → n = 2 →
    s.cfg.debugVariant = .tapLink →
    Completes i s (fun t => t.dsu = { s.dsu with
        dsr2 := v &&& 0xFF#32
        linkByte := if s.dsu.outputPending then s.dsu.linkByte else v.setWidth 8
        outputPending := true }
      ∧ OnlyAdvances s { t with dsu := s.dsu })
  /-- an event is not both unsent and unacknowledged (61 R668: "This case does not occur") -/
  outputJtag : (s.userMode = false ∧ s.dsu.supWrite = true) ∨ (s.userMode = true ∧ s.dsu.userWrite = true) → n = 2 →
    s.cfg.debugVariant = .jtag → (s.dsu.outputPending && s.dsu.eventAckPending) = false →
    Completes i s (fun t => t.dsu = { s.dsu with
        dsr2 := v
        outputPending := if s.dsu.eventAckPending then s.dsu.outputPending else true }
      ∧ OnlyAdvances s { t with dsu := s.dsu })
  general : (s.userMode = false ∧ s.dsu.supWrite = true) ∨ (s.userMode = true ∧ s.dsu.userWrite = true) → 3 ≤ n.val →
    Completes i s (fun t => t.dsrValue n = v ∧ (∀ m, m ≠ n → t.dsrValue m = s.dsrValue m)
      ∧ OnlyAdvances s { t with dsu := s.dsu })

/-- What the host's peek, poke, event and event_ack do to the machine, and what the unit sends (61 R661, R668, R673,
R674). A poke writes what a store could write, the read-only fields unchanged; that one to DSR2 is not sent is the model's
choice (assumption 26). -/
structure HostActions (s : State) : Prop where
  peek : ∀ n, applyEvent s (.hostPeek n) = { s with toHost := s.toHost ++ [.peeked n (s.dsrValue n)] }
  pokeVersion : ∀ v, (applyEvent s (.hostPoke 0 v)).dsu = s.dsu
  pokeStatus : ∀ v, (applyEvent s (.hostPoke 1 v)).dsrValue 1
    = (s.dsrValue 1 &&& 0x0000FE79#32) ||| (v &&& 0xFFFF0186#32)
  pokeOutput : ∀ v, (applyEvent s (.hostPoke 2 v)).dsrValue 2
    = if s.cfg.debugVariant = .tapLink then v &&& 0xFF#32 else v
  pokeGeneral : ∀ n v, 3 ≤ n.val → (applyEvent s (.hostPoke n v)).dsrValue n = v
  pokeOthers : ∀ n m v, m ≠ n → (applyEvent s (.hostPoke n v)).dsrValue m = s.dsrValue m
  pokeFrame : ∀ n v, { applyEvent s (.hostPoke n v) with dsu := s.dsu, toHost := s.toHost } = s
    ∧ (applyEvent s (.hostPoke n v)).dsu.linkByte = s.dsu.linkByte
  pokeAnswer : ∀ n v, (applyEvent s (.hostPoke n v)).toHost
    = if s.cfg.debugVariant = .tapLink then s.toHost else s.toHost ++ [.poked n]
  event : ∀ reason channel, applyEvent s (.hostEvent reason channel) = { s with
    dbgPending := s.dbgPending || decide (reason = 1#3 ∧ (s.cfg.debugVariant = .tapLink ∨ channel = 0#3))
    toHost := if s.cfg.debugVariant = .tapLink then s.toHost else s.toHost ++ [.eventAck reason channel] }
  eventAck : s.cfg.debugVariant = .jtag →
    applyEvent s .hostEventAck = { s with dsu := { s.dsu with eventAckPending := false } }
  sendByte : s.cfg.debugVariant = .tapLink → s.dsu.outputPending = true → applyEvent s .dsuSend = { s with
    dsu := { s.dsu with outputPending := false }
    toHost := s.toHost ++ [.event (0#24 ++ s.dsu.linkByte)] }
  sendEvent : s.cfg.debugVariant = .jtag → s.dsu.outputPending = true → applyEvent s .dsuSend = { s with
    dsu := { s.dsu with outputPending := false, eventAckPending := true }
    toHost := s.toHost ++ [.event s.dsu.dsr2] }
  sendNothing : s.dsu.outputPending = false → applyEvent s .dsuSend = s

end Sys2Proof.Machine
end

