-- ==== Sys2Proof/Certificates/Slice0/Obligations.lean ====
section
/-! DEFINITION. The statements for the provers. Those over `exec` take a state whose next operation is alone in having
an effect in its bundle (`State.alone`) and say what the whole next state is. -/

open Sys2Proof Sys2Proof.Machine

/-! ### Encoding -/

/-- Decoding the encoding of any operation, with either stop bit, gives the operation back, and so does decoding the
bytes of its word in either byte order (30 R206, R211 to R215). -/
def Obligations.DecodeOfEncodeIsTheInstruction : Prop :=
  ∀ (stop : Bool) (i : Instr),
    decodeSyllable (encodeSyllable stop i) = .ok i
    ∧ ∀ (rest : List Byte) (b0 b1 b2 b3 : Byte), b3 ++ b2 ++ b1 ++ b0 = encodeSyllable true i →
        decodeBytes false (b0 :: b1 :: b2 :: b3 :: rest) = (.ok i, rest)
        ∧ decodeBytes true (b3 :: b2 :: b1 :: b0 :: rest) = (.ok i, rest)

/-- A word that decodes to an operation is the encoding of that operation: every other bit is as the format fixes it,
and no operation has two words (30 R204, R210, R218). -/
def Obligations.DecodedWordIsTheEncoding : Prop :=
  ∀ (w : Word) (i : Instr), decodeSyllable w = .ok i → encodeSyllable (stopBit w) i = w

/-- Words written out in the spec's rules decode to their operations, and words the rules forbid are rejected (30 R211
to R215, R229). -/
def Obligations.SpecWordsDecode : Prop :=
  decodeSyllable 0x80003081#32 = .ok (.addR 3#6 1#6 2#6)
  ∧ decodeSyllable 0x881FF0C1#32 = .ok (.addI 3#6 1#6 0x1FF#9)
  ∧ decodeSyllable 0x89C040C1#32 = .ok (.clz 3#6 1#6)
  ∧ decodeSyllable 0x82A03081#32 = .ok (.mullR 3#6 1#6 2#6)
  ∧ decodeSyllable 0x8FE050C1#32 = .ok (.mulfracI 3#6 1#6 5#9)
  ∧ decodeSyllable 0x86040081#32 = .ok (.cmpeqBR 1#3 1#6 2#6)
  ∧ decodeSyllable 0x90403081#32 = .ok (.slctR 3#6 2#3 1#6 2#6)
  ∧ decodeSyllable 0x92443081#32 = .ok (.addcg 3#6 1#3 2#3 1#6 2#6)
  ∧ decodeSyllable 0xA00080C1#32 = .ok (.ldw 3#6 1#6 8#9)
  ∧ decodeSyllable 0xA5008081#32 = .ok (.stw 1#6 8#9 2#6)
  ∧ decodeSyllable 0xB8800003#32 = .ok (.br 1#3 3#23)
  ∧ decodeSyllable 0xB2000000#32 = .ok .rfi
  ∧ decodeSyllable 0xA9000080#32 = .ok (.pswset 2#6)
  ∧ decodeSyllable 0x9FA00005#32 = .ok (.sbrk 5#21)
  ∧ decodeSyllable 0x1FA00005#32 = .reject .sbrkWithoutStop
  ∧ decodeSyllable 0xC0003081#32 = .reject .reservedBit30
  ∧ decodeSyllable 0xB2800000#32 = .reject .unassigned
  ∧ decodeSyllable 0x80043081#32 = .reject .unusedField

/-! ### Bundles and the step -/

/-- A step at a quiet boundary runs exactly the operation whose word stands at the PC, alone in its bundle; with
events at the boundary it runs it on the state they leave. At a legal bundle of any length a step runs the bundle's
operations, unless one is privileged and the mode is user mode (30 R200, R201, R228; 70 R720). -/
def Obligations.StepRunsTheDecodedInstruction : Prop :=
  (∀ (s : State) (w : Word) (i : Instr), s.quiet → s.bundle = {} → s.fetchBundle = .ok [w] → stopBit w = true →
    decodeSyllable w = .ok i → bundleFlaw s.pc [i] = none → step s = exec i s)
  ∧ (∀ (s : State) (w : Word) (i : Instr), s.boundary.debugAccepted = false → s.boundary.boundaryCauses = [] →
    s.boundary.bundle = {} → s.boundary.fetchBundle = .ok [w] → stopBit w = true → decodeSyllable w = .ok i →
    bundleFlaw s.boundary.pc [i] = none → step s = exec i s.boundary)
  ∧ ∀ (s : State) (ws : List Word) (ops : List Instr), s.boundary.debugAccepted = false →
    s.boundary.boundaryCauses = [] → s.boundary.fetchBundle = .ok ws → decodeBundle s.boundary.pc ws = .ok ops →
    (s.boundary.userMode = true → ∀ i ∈ ops, (opInfo i).privileged = false) → step s = s.boundary.runBundle ops

/-- A bundle's syllables are fetched at the PC and the words after it, up to the first with a stop bit, each executable
where it leads and from ordinary memory that answers or from the debug ROM (30 R201, R202; 20 R137, R177; 10 R85; a bundle
without a stop bit has four, decision D13). -/
def Obligations.FetchReadsTheBundleFromMemory : Prop :=
  ∀ (s : State) (n : Nat) (w : Nat → Word), 0 < n → n ≤ 4 →
    (∀ k, k < n → ∃ pa, s.leadsTo (s.pc + BitVec.ofNat 32 (4 * k)) pa 0 ∧ s.fetchYields pa (w k)) →
    (∀ k, k + 1 < n → stopBit (w k) = false) → (n = 4 ∨ stopBit (w (n - 1)) = true) →
    s.fetchBundle = .ok ((List.range n).map w)

/-- A bundle that breaks a rule raises ILL_INST and no operation of it updates state; so does a bundle that holds a
privileged operation in user mode (30 R216 to R229; 60 R502; 70 R720). That ILL_INST is taken whatever the bundle's
other operations would raise, an sbrk with the smaller number of SBREAK among them, is the choice of 60 R521, decision
D27(c): the operations of such a bundle are not evaluated (assumption 32). -/
def Obligations.IllegalBundleRaisesIllInst : Prop :=
  (∀ (s : State) (ws : List Word) (flaw : BundleFlaw), s.boundary.debugAccepted = false →
    s.boundary.boundaryCauses = [] → s.boundary.fetchBundle = .ok ws →
    decodeBundle s.boundary.pc ws = .error flaw →
    ∃ t, step s = .next t ∧ Traps .illInst 0#32 s.boundary t)
  ∧ ∀ (s : State) (ws : List Word) (ops : List Instr) (i : Instr), s.boundary.debugAccepted = false →
    s.boundary.boundaryCauses = [] → s.boundary.fetchBundle = .ok ws → decodeBundle s.boundary.pc ws = .ok ops →
    s.boundary.userMode = true → i ∈ ops → (opInfo i).privileged = true →
    ∃ t, step s = .next t ∧ Traps .illInst 0#32 s.boundary t

/-- A bundle is legal exactly when its last syllable has the stop bit, every syllable is a valid operation and the
operations obey the placement rules, each said by position in the bundle; which operation is a multiply, uses the
load/store unit, takes an extension, writes a register, must be first or alone or is privileged is listed for each (30
R209, R217 to R228; two writes of R0 are legal and branch registers are compared apart: assumption 38). -/
def Obligations.LegalBundlesAreThoseOfTheRules : Prop :=
  (∀ (pc : Word) (ws : List Word) (ops : List Instr), decodeBundle pc ws = .ok ops ↔
    (∃ w, ws.getLast? = some w ∧ stopBit w = true) ∧ ws.map decodeSyllable = ops.map Decoded.ok
      ∧ bundleFlaw pc ops = none)
  ∧ (∀ (pc : Word) (ops : List Instr), bundleFlaw pc ops = none ↔
    (∀ (k : Nat) (i : Instr), ops[k]? = some i → (opInfo i).firstOnly = true → k = 0)
    ∧ (∀ (k : Nat) (i : Instr), ops[k]? = some i → (opInfo i).multiply = true →
        (pc + BitVec.ofNat 32 (4 * k)).getLsbD 2 = true)
    ∧ (∀ (k : Nat) v, ops[k]? = some (.imml v) → (pc + BitVec.ofNat 32 (4 * k)).getLsbD 2 = false
        ∧ 0 < k ∧ ∃ i, ops[k - 1]? = some i ∧ (opInfo i).extendable = true)
    ∧ (∀ (k : Nat) v, ops[k]? = some (.immr v) → (pc + BitVec.ofNat 32 (4 * k)).getLsbD 2 = false
        ∧ ∃ i, ops[k + 1]? = some i ∧ (opInfo i).extendable = true)
    ∧ (∀ (k : Nat) v u, ¬ (ops[k]? = some (.immr v) ∧ ops[k + 2]? = some (.imml u)))
    ∧ (∀ (j k : Nat) (i i' : Instr), ops[j]? = some i → ops[k]? = some i' → (opInfo i).loadStore = true →
        (opInfo i').loadStore = true → j = k)
    ∧ (∀ (j k : Nat) (i i' : Instr) d, ops[j]? = some i → ops[k]? = some i' → (opInfo i).dest = some d →
        (opInfo i').dest = some d → d ≠ 0#6 → j = k)
    ∧ (∀ (j k : Nat) (i i' : Instr) b, ops[j]? = some i → ops[k]? = some i' → (opInfo i).bdest = some b →
        (opInfo i').bdest = some b → j = k)
    ∧ (∀ (k : Nat) (i : Instr), ops[k]? = some i → i.wf = true)
    ∧ (∀ (k : Nat) (i : Instr), ops[k]? = some i → (opInfo i).alone = true → ops.length = 1))
  ∧ OperationProperties
  ∧ ∀ (i : Instr), i.wf = false ↔ (opInfo i).dest = some 63#6 ∧ ((opInfo i).multiply = true
    ∨ ∃ op ∈ [Instr.ldh, .ldhD, .ldhu, .ldhuD, .ldb, .ldbD, .ldbu, .ldbuD], ∃ s1 k, i = op 63#6 s1 k)

/-- Control transfers, rfi, pswset and pswclr in any other place than the first make a bundle illegal, and so do prgins
and syscall with any other syllable (30 R219, R227). -/
def Obligations.MisplacedOperationsMakeABundleIllegal : Prop :=
  (∀ (pc : Word) (before after : List Instr) (i : Instr), before ≠ [] →
      ((∃ c t, i = .br c t) ∨ (∃ c t, i = .brf c t) ∨ (∃ t, i = .goto t) ∨ i = .gotoLink ∨ (∃ t, i = .call t)
        ∨ i = .callLink ∨ i = .rfi ∨ (∃ r, i = .pswset r) ∨ ∃ r, i = .pswclr r) →
      ∃ flaw, bundleFlaw pc (before ++ i :: after) = some flaw)
  ∧ ∀ (pc : Word) (before after : List Instr) (i : Instr), (before ≠ [] ∨ after ≠ []) →
      (i = .prgins ∨ ∃ n, i = .syscall n) → ∃ flaw, bundleFlaw pc (before ++ i :: after) = some flaw

/-- The extended immediate is IMM:ISRC2 and an unextended one is the sign-extended field; imml extends its left
neighbour, immr its right one (30 R207, R208). -/
def Obligations.ImmediatesAreFormedFromExtensions : Prop :=
  (∀ (s : State) (i : BitVec 9), s.bundle.ext = none → (s.imm i).toInt = i.toInt)
  ∧ (∀ (s : State) (i : BitVec 9) (v : BitVec 23), s.bundle.ext = some v →
      (s.imm i).toNat = v.toNat * 512 + i.toNat)
  ∧ (∀ (s : State) (d s1 : RegNum) (i : BitVec 9) (v : BitVec 23), ∃ t,
      s.runBundle [.addI d s1 i, .imml v] = .next t ∧ t.gpr d = written d (s.gpr s1 + (v ++ i : Word))
      ∧ t.pc = alignDown (s.pc + 8#32))
  ∧ ∀ (s : State) (d s1 : RegNum) (i : BitVec 9) (v : BitVec 23), ∃ t,
      s.runBundle [.immr v, .addI d s1 i] = .next t ∧ t.gpr d = written d (s.gpr s1 + (v ++ i : Word))
      ∧ t.pc = alignDown (s.pc + 8#32)

/-- The operations of a bundle read the state before the bundle and write together (60 R505; 70 R720, R721): every
operation has one effect, computed from that state, and a bundle of any operations ends in finishBundle of their effects,
in order, which commits them all if none throws or waits. So for two adds, a branch beside the compare of its condition,
and a call beside a reader of R63 (the link value: conflict C35; that the PC wraps and drops its low bits: assumption
34). -/
def Obligations.BundleReadsBeforeItWrites : Prop :=
  (∀ (s : State) (words : Nat) (i : Instr) (e : Option (BitVec 23)), ∃ eff, s.Evaluates words i e eff)
  ∧ (∀ (s : State) (ops : List Instr), ops ≠ [] → ∃ es,
    List.Forall₂ (fun x eff => s.Evaluates ops.length x.1 x.2 eff) (attachExtensions ops) es
    ∧ s.runBundle ops = .next (State.finishBundle { s with bundle := { words := ops.length } } es))
  ∧ (∀ (s : State) (es : List Effect), (∀ e ∈ es, e.raised = none ∧ e.stall = none) →
    s.finishBundle es = (es.flatMap fun e => e.writes).foldl applyWrite (s.advance es))
  ∧ (∀ (s : State) (d a b e f g : RegNum), d ≠ e → ∃ t, s.runBundle [.addR d a b, .addR e f g] = .next t
    ∧ t.gpr d = written d (s.gpr a + s.gpr b) ∧ t.gpr e = written e (s.gpr f + s.gpr g)
    ∧ (∀ r, r ≠ d → r ≠ e → t.gpr r = s.gpr r) ∧ KeepsBranches s t ∧ KeepsMemory s t
    ∧ t.pc = alignDown (s.pc + 8#32))
  ∧ (∀ (s : State) (c : BrNum) (o : BitVec 23) (a b : RegNum), ∃ t,
    s.runBundle [.br c o, .cmpeqBR c a b] = .next t ∧ t.br c = (s.gpr a == s.gpr b)
    ∧ t.pc = alignDown (if s.br c then s.pc + (o.signExtend 32 <<< 2) else s.pc + 8#32))
  ∧ ∀ (s : State) (o : BitVec 23) (d : RegNum), d ≠ 63#6 → ∃ t,
    s.runBundle [.call o, .addR d 0#6 63#6] = .next t ∧ t.gpr d = written d (s.gpr 63#6)
    ∧ t.gpr 63#6 = s.pc + 8#32 ∧ t.pc = alignDown (s.pc + (o.signExtend 32 <<< 2))

/-- If any operation of a bundle throws, the exception of the smallest number is taken and no operation of the bundle
updates state (60 R505, R506, R507, R520). -/
def Obligations.ThrowingBundleCommitsNothing : Prop :=
  (∀ (s : State) (es : List Effect), (∃ e ∈ es, e.raised ≠ none) →
    (∀ e ∈ es, ∀ q, e.raised = some q → q.cause ≠ .itlb → q.cause ≠ .dtlb → q.tlb = none) →
    ∃ r, (∃ e ∈ es, e.raised = some r)
      ∧ (∀ e ∈ es, ∀ q, e.raised = some q → r.cause.number ≤ q.cause.number)
      ∧ Traps r.cause r.exceptAddress s (s.finishBundle es))
  ∧ ∀ (s : State) (d a b c : RegNum) (i : BitVec 9) (n : BitVec 21), s.userMode = false →
    Width.misaligned .word (s.gpr c + i.signExtend 32) = true → isCRegSpace (s.gpr c + i.signExtend 32) = false →
    (∃ t, s.runBundle [.addR d a b, .stw c i a, .sbrk n] = .next t ∧ Traps .sbreak 0#32 s t)
    ∧ (s.dbreakHit (s.gpr c + i.signExtend 32) = false →
      ∃ t, s.runBundle [.addR d a b, .stw c i a] = .next t
        ∧ Traps .misalignedTrap (s.gpr c + i.signExtend 32) s t)

/-! ### Integer operations -/

/-- add, sub, sh1add to sh4add: encodings and results (40 R251, R252, R256 to R259). -/
def Obligations.AddAndSubtractResults : Prop :=
  RegImmForms 0#1 0b00000#5 .addR .addI (fun a b => a + b)
  ∧ RegImmForms 0#1 0b00001#5 .subR .subI (fun a b => b - a)
  ∧ RegImmForms 0#1 0b00101#5 .sh1addR .sh1addI (fun a b => (a <<< 1) + b)
  ∧ RegImmForms 0#1 0b00110#5 .sh2addR .sh2addI (fun a b => (a <<< 2) + b)
  ∧ RegImmForms 0#1 0b00111#5 .sh3addR .sh3addI (fun a b => (a <<< 3) + b)
  ∧ RegImmForms 0#1 0b01000#5 .sh4addR .sh4addI (fun a b => (a <<< 4) + b)

/-- shl, shr, shru: the amount is the low 8 bits of the second operand (40 R253, R254, R255). -/
def Obligations.ShiftResults : Prop :=
  RegImmForms 0#1 0b00010#5 .shlR .shlI (fun a b => if 31 < b.toNat % 256 then 0#32 else a <<< (b.toNat % 256))
  ∧ RegImmForms 0#1 0b00011#5 .shrR .shrI (fun a b => a.sshiftRight (b.toNat % 256))
  ∧ RegImmForms 0#1 0b00100#5 .shruR .shruI (fun a b => a >>> (b.toNat % 256))

/-- and, andc, or, orc, xor (andc and orc complement the first operand) and max, maxu, min, minu (40 R260 to R268). -/
def Obligations.BitwiseAndMinMaxResults : Prop :=
  RegImmForms 0#1 0b01001#5 .andR .andI (fun a b => a &&& b)
  ∧ RegImmForms 0#1 0b01010#5 .andcR .andcI (fun a b => ~~~a &&& b)
  ∧ RegImmForms 0#1 0b01011#5 .orR .orI (fun a b => a ||| b)
  ∧ RegImmForms 0#1 0b01100#5 .orcR .orcI (fun a b => ~~~a ||| b)
  ∧ RegImmForms 0#1 0b01101#5 .xorR .xorI (fun a b => a ^^^ b)
  ∧ RegImmForms 0#1 0b10000#5 .maxR .maxI (fun a b => if b.slt a then a else b)
  ∧ RegImmForms 0#1 0b10001#5 .maxuR .maxuI (fun a b => if b.ult a then a else b)
  ∧ RegImmForms 0#1 0b10010#5 .minR .minI (fun a b => if a.slt b then a else b)
  ∧ RegImmForms 0#1 0b10011#5 .minuR .minuI (fun a b => if a.ult b then a else b)

/-- sxtb, sxth, bswap, zxth, clz (40 R269 to R273). -/
def Obligations.MonadicResults : Prop :=
  MonadicForm 0#9 .sxtb (fun a => (a.setWidth 8).signExtend 32)
  ∧ MonadicForm 1#9 .sxth (fun a => (a.setWidth 16).signExtend 32)
  ∧ MonadicForm 2#9 .bswap
      (fun a => a.extractLsb' 0 8 ++ a.extractLsb' 8 8 ++ a.extractLsb' 16 8 ++ a.extractLsb' 24 8)
  ∧ MonadicForm 3#9 .zxth (fun a => a &&& 0xFFFF#32)
  ∧ MonadicForm 4#9 .clz BitVec.clz

/-- addcg and divs: the general register, the carry or quotient bit, and nothing else (40 R274, R275). -/
def Obligations.CarryAndDivideStepResults : Prop :=
  (∀ (stop : BitVec 1) (c b : BrNum) (d s2 s1 : RegNum),
    decodeSyllable (stop ++ 0#1 ++ 0b01#2 ++ 0b0010#4 ++ c ++ b ++ d ++ s2 ++ s1 : Word) = .ok (.addcg d b c s1 s2)
    ∧ decodeSyllable (stop ++ 0#1 ++ 0b01#2 ++ 0b0100#4 ++ c ++ b ++ d ++ s2 ++ s1 : Word) = .ok (.divs d b c s1 s2))
  ∧ (∀ (s : State) (d : RegNum) (b c : BrNum) (s1 s2 : RegNum), s.alone →
    Completes (.addcg d b c s1 s2) s (fun t =>
      let sum := (s.gpr s1).toNat + (s.gpr s2).toNat + (s.br c).toNat
      WritesGprBranch d (BitVec.ofNat 32 sum) b (decide (2 ^ 32 ≤ sum)) s t))
  ∧ ∀ (s : State) (d : RegNum) (b c : BrNum) (s1 s2 : RegNum), s.alone →
    Completes (.divs d b c s1 s2) s (fun t =>
      let temp := (s.gpr s1 <<< 1) ||| (BitVec.ofBool (s.br c)).setWidth 32
      WritesGprBranch d (if (s.gpr s1).msb then temp + s.gpr s2 else temp - s.gpr s2) b (s.gpr s1).msb s t)

/-! ### Comparisons and selects -/

/-- The ten comparisons in their four forms (41 R300 to R310). -/
def Obligations.CompareResults : Prop :=
  CompareForms 0b0000#4 .cmpeqRR .cmpeqBR .cmpeqRI .cmpeqBI (fun a b => a == b)
  ∧ CompareForms 0b0001#4 .cmpneRR .cmpneBR .cmpneRI .cmpneBI (fun a b => a != b)
  ∧ CompareForms 0b0010#4 .cmpgeRR .cmpgeBR .cmpgeRI .cmpgeBI (fun a b => b.sle a)
  ∧ CompareForms 0b0100#4 .cmpgtRR .cmpgtBR .cmpgtRI .cmpgtBI (fun a b => b.slt a)
  ∧ CompareForms 0b0110#4 .cmpleRR .cmpleBR .cmpleRI .cmpleBI (fun a b => a.sle b)
  ∧ CompareForms 0b1000#4 .cmpltRR .cmpltBR .cmpltRI .cmpltBI (fun a b => a.slt b)
  ∧ CompareForms 0b0011#4 .cmpgeuRR .cmpgeuBR .cmpgeuRI .cmpgeuBI (fun a b => b.ule a)
  ∧ CompareForms 0b0101#4 .cmpgtuRR .cmpgtuBR .cmpgtuRI .cmpgtuBI (fun a b => b.ult a)
  ∧ CompareForms 0b0111#4 .cmpleuRR .cmpleuBR .cmpleuRI .cmpleuBI (fun a b => a.ule b)
  ∧ CompareForms 0b1001#4 .cmpltuRR .cmpltuBR .cmpltuRI .cmpltuBI (fun a b => a.ult b)

/-- The logical operations on truth values in their four forms (41 R311 to R314). -/
def Obligations.LogicalResults : Prop :=
  CompareForms 0b1010#4 .andlRR .andlBR .andlRI .andlBI (fun a b => a != 0#32 && b != 0#32)
  ∧ CompareForms 0b1011#4 .nandlRR .nandlBR .nandlRI .nandlBI (fun a b => !(a != 0#32 && b != 0#32))
  ∧ CompareForms 0b1100#4 .orlRR .orlBR .orlRI .orlBI (fun a b => a != 0#32 || b != 0#32)
  ∧ CompareForms 0b1101#4 .norlRR .norlBR .norlRI .norlBI (fun a b => !(a != 0#32 || b != 0#32))

/-- slct and slctf in both forms (41 R320, R321). -/
def Obligations.SelectResults : Prop :=
  (∀ (stop : BitVec 1) (c : BrNum) (d s2 s1 : RegNum) (i : BitVec 9),
    decodeSyllable (stop ++ 0#1 ++ 0b01#2 ++ 0#1 ++ 0b000#3 ++ c ++ 0#3 ++ d ++ s2 ++ s1 : Word)
      = .ok (.slctR d c s1 s2)
    ∧ decodeSyllable (stop ++ 0#1 ++ 0b01#2 ++ 1#1 ++ 0b000#3 ++ c ++ i ++ d ++ s1 : Word) = .ok (.slctI d c s1 i)
    ∧ decodeSyllable (stop ++ 0#1 ++ 0b01#2 ++ 0#1 ++ 0b001#3 ++ c ++ 0#3 ++ d ++ s2 ++ s1 : Word)
      = .ok (.slctfR d c s1 s2)
    ∧ decodeSyllable (stop ++ 0#1 ++ 0b01#2 ++ 1#1 ++ 0b001#3 ++ c ++ i ++ d ++ s1 : Word)
      = .ok (.slctfI d c s1 i))
  ∧ ∀ (s : State) (d : RegNum) (c : BrNum) (s1 s2 : RegNum) (i : BitVec 9), s.alone →
    Completes (.slctR d c s1 s2) s (WritesGpr d (bif s.br c then s.gpr s1 else s.gpr s2) s)
    ∧ Completes (.slctI d c s1 i) s (WritesGpr d (bif s.br c then s.gpr s1 else s.imm i) s)
    ∧ Completes (.slctfR d c s1 s2) s (WritesGpr d (bif s.br c then s.gpr s2 else s.gpr s1) s)
    ∧ Completes (.slctfI d c s1 i) s (WritesGpr d (bif s.br c then s.imm i else s.gpr s1) s)

/-! ### Multiplies -/

/-- The multiplies with half-word operands (42 R371 to R380): the second operand's lower or upper half, signed or
unsigned, times the first operand or its lower or upper half. -/
def Obligations.HalfWordMultiplyResults : Prop :=
  RegImmForms 0#1 0b10101#5 .mullR .mullI (fun a b => a * (b.setWidth 16).signExtend 32)
  ∧ RegImmForms 0#1 0b10110#5 .mulluR .mulluI (fun a b => a * (b.setWidth 16).setWidth 32)
  ∧ RegImmForms 0#1 0b10111#5 .mulhR .mulhI (fun a b => a * b.sshiftRight 16)
  ∧ RegImmForms 0#1 0b11000#5 .mulhuR .mulhuI (fun a b => a * (b >>> 16))
  ∧ RegImmForms 0#1 0b11001#5 .mulllR .mulllI (fun a b => (a.setWidth 16).signExtend 32 * (b.setWidth 16).signExtend 32)
  ∧ RegImmForms 0#1 0b11010#5 .mullluR .mullluI (fun a b => (a.setWidth 16).setWidth 32 * (b.setWidth 16).setWidth 32)
  ∧ RegImmForms 0#1 0b11011#5 .mullhR .mullhI (fun a b => (a.setWidth 16).signExtend 32 * b.sshiftRight 16)
  ∧ RegImmForms 0#1 0b11100#5 .mullhuR .mullhuI (fun a b => (a.setWidth 16).setWidth 32 * (b >>> 16))
  ∧ RegImmForms 0#1 0b11101#5 .mulhhR .mulhhI (fun a b => a.sshiftRight 16 * b.sshiftRight 16)
  ∧ RegImmForms 0#1 0b11110#5 .mulhhuR .mulhhuI (fun a b => (a >>> 16) * (b >>> 16))

/-- The shifted and the 32 by 32 multiplies (42 R381 to R387), over 64-bit products. -/
def Obligations.WordMultiplyResults : Prop :=
  RegImmForms 0#1 0b11111#5 .mulhsR .mulhsI (fun a b => (a * (b >>> 16)) <<< 16)
  ∧ RegImmForms 0#1 0b10100#5 .mulhhsR .mulhhsI
      (fun a b => (a.signExtend 64 * (b.sshiftRight 16).signExtend 64).extractLsb' 16 32)
  ∧ RegImmForms 0#1 0b01111#5 .mullhusR .mullhusI
      (fun a b => (a.signExtend 64 * (b.setWidth 16).setWidth 64).extractLsb' 32 32)
  ∧ RegImmForms 1#1 0b01110#5 .mul32R .mul32I (fun a b => a * b)
  ∧ RegImmForms 1#1 0b01111#5 .mul64hR .mul64hI (fun a b => (a.signExtend 64 * b.signExtend 64).extractLsb' 32 32)
  ∧ RegImmForms 1#1 0b11110#5 .mul64huR .mul64huI (fun a b => (a.setWidth 64 * b.setWidth 64).extractLsb' 32 32)
  ∧ RegImmForms 1#1 0b11111#5 .mulfracR .mulfracI
      (fun a b => if a = 0x80000000#32 ∧ b = 0x80000000#32 then 0x7FFFFFFF#32
        else (a.signExtend 64 * b.signExtend 64 + 0x40000000#64).extractLsb' 31 32)

/-! ### Loads and stores -/

/-- A multi-byte value is assembled from memory, and stored to it, in the processor's byte order; instruction fetch
assembles a word the same way (20 R103). -/
def Obligations.MultiByteValuesFollowTheByteOrder : Prop :=
  (∀ (m : Memory) (big : Bool) (pa : Word) (w : Width) (k : Nat), k < w.bytes →
    (m.load big pa w).extractLsb' (8 * k) 8 = m.read (byteAddr pa (if big then w.bytes - 1 - k else k))
    ∧ (m.load big pa w).toNat < 2 ^ (8 * w.bytes))
  ∧ (∀ (m : Memory) (big : Bool) (pa : Word) (w : Width) (v : Word) (k : Nat), m.wf = true → k < w.bytes →
    (m.store big pa w v).read (byteAddr pa (if big then w.bytes - 1 - k else k)) = v.extractLsb' (8 * k) 8)
  ∧ ∀ (s : State) (pa : Word), inPeripheralBlock s.cfg pa = false → busReadError s.cfg pa = false →
    s.fetchPhysical pa = some (s.mem.load s.cfg.bigEndian pa .word)

/-- ldw, ldh, ldhu, ldb, ldbu from ordinary memory, translated or not (43 R410 to R415). -/
def Obligations.LoadResults : Prop :=
  LoadForm 0b00000#5 .ldw .word (fun v => v)
  ∧ LoadForm 0b00010#5 .ldh .half (fun v => (v.setWidth 16).signExtend 32)
  ∧ LoadForm 0b00100#5 .ldhu .half (fun v => (v.setWidth 16).setWidth 32)
  ∧ LoadForm 0b00110#5 .ldb .byte (fun v => (v.setWidth 8).signExtend 32)
  ∧ LoadForm 0b01000#5 .ldbu .byte (fun v => (v.setWidth 8).setWidth 32)

/-- ldw.d, ldh.d, ldhu.d, ldb.d, ldbu.d: the data, 0 or a trap (43 R416 to R421; 20 R122, R123). That a load outside the
SCU regions returns 0, and not data already cached, is the model's choice (assumption 24, 93 H13). -/
def Obligations.DismissibleLoadResults : Prop :=
  DismissibleForm 0b00001#5 .ldwD .word (fun v => v)
  ∧ DismissibleForm 0b00011#5 .ldhD .half (fun v => (v.setWidth 16).signExtend 32)
  ∧ DismissibleForm 0b00101#5 .ldhuD .half (fun v => (v.setWidth 16).setWidth 32)
  ∧ DismissibleForm 0b00111#5 .ldbD .byte (fun v => (v.setWidth 8).signExtend 32)
  ∧ DismissibleForm 0b01001#5 .ldbuD .byte (fun v => (v.setWidth 8).setWidth 32)

/-- stw, sth, stb to ordinary memory, translated or not: the bytes stored and every other byte (43 R425, R426, R427;
20 R125). -/
def Obligations.StoreResults : Prop :=
  StoreForm 0b01010#5 .stw .word ∧ StoreForm 0b01011#5 .sth .half ∧ StoreForm 0b01100#5 .stb .byte

/-- Where each normal load and store traps, in the order of its checks (43 R411 to R415, R425 to R427, R440; 20 R120,
R124, R128, R129; the address control register traps pass: conflict C30). -/
def Obligations.LoadAndStoreTraps : Prop :=
  ∀ (s : State) (r s1 : RegNum) (i : BitVec 9), s.alone →
    AccessTraps (.ldw r s1 i) s .word (s.gpr s1 + s.imm i) 1 true
    ∧ AccessTraps (.ldh r s1 i) s .half (s.gpr s1 + s.imm i) 1 false
    ∧ AccessTraps (.ldhu r s1 i) s .half (s.gpr s1 + s.imm i) 1 false
    ∧ AccessTraps (.ldb r s1 i) s .byte (s.gpr s1 + s.imm i) 1 false
    ∧ AccessTraps (.ldbu r s1 i) s .byte (s.gpr s1 + s.imm i) 1 false
    ∧ AccessTraps (.stw s1 i r) s .word (s.gpr s1 + s.imm i) 2 true
    ∧ AccessTraps (.sth s1 i r) s .half (s.gpr s1 + s.imm i) 2 false
    ∧ AccessTraps (.stb s1 i r) s .byte (s.gpr s1 + s.imm i) 2 false

/-- A DTLB exception of a word load or store records its cause, SPEC, WRITE and, where one entry maps the address, the
entry (20 R136). Fields the spec calls undefined are open (assumption 15); that IN_UTLB is 1 whenever exactly one entry
maps the address is the model's choice, what 20 R136 gives for a model without micro-TLBs, where hardware may report 0
(assumptions 15 and 21). -/
def Obligations.DtlbExceptionsAreRecorded : Prop :=
  ∀ (s : State) (r s1 : RegNum) (i : BitVec 9) (store : Bool), s.alone →
    s.dbreakHit (s.gpr s1 + s.imm i) = false → isCRegSpace (s.gpr s1 + s.imm i) = false →
    Width.misaligned .word (s.gpr s1 + s.imm i) = false →
    s.tlbRefuses (s.gpr s1 + s.imm i) (if store then 2 else 1) →
    Completes (if store then .stw s1 i r else .ldw r s1 i) s (fun t => Traps .dtlb (s.gpr s1 + s.imm i) s t
      ∧ t.mmu.tlbExcause.getLsbD 18 = false ∧ t.mmu.tlbExcause.getLsbD 19 = store
      ∧ t.mmu.tlbExcause.extractLsb' 8 8 = 0#8 ∧ t.mmu.tlbExcause.extractLsb' 21 11 = 0#11
      ∧ ((∀ k, ¬ s.entryMaps (s.gpr s1 + s.imm i) k) →
          t.mmu.tlbExcause.extractLsb' 16 2 = 0#2 ∧ t.mmu.tlbExcause.getLsbD 20 = false)
      ∧ ((∃ j k, j ≠ k ∧ s.entryMaps (s.gpr s1 + s.imm i) j ∧ s.entryMaps (s.gpr s1 + s.imm i) k) →
          t.mmu.tlbExcause.extractLsb' 16 2 = 3#2)
      ∧ ∀ k, s.onlyMaps (s.gpr s1 + s.imm i) k →
          t.mmu.tlbExcause.getLsbD 20 = true ∧ (t.mmu.tlbExcause.extractLsb' 0 8).toNat = k.val
          ∧ t.mmu.tlbExcause.extractLsb' 16 2 =
            if (s.prot (s.mmu.utlb.get k)).getLsbD (if store then 2 else 1) then 2#2 else 1#2)

/-- prgadd raises DTLB for two mappings, and for none if TLB_DYNAMIC is set, and changes nothing otherwise (43 R431;
20 R127; control register space: assumption 33). -/
def Obligations.PurgeAddressTrapsOrAdvances : Prop :=
  ∀ (s : State) (s1 : RegNum) (i : BitVec 9), s.alone →
    (isCRegSpace (s.gpr s1 + s.imm i) = false → s.psw.getLsbD 2 = true →
      ((∃ j k, j ≠ k ∧ s.entryMaps (s.gpr s1 + s.imm i) j ∧ s.entryMaps (s.gpr s1 + s.imm i) k)
        ∨ (s.psw.getLsbD 3 = true ∧ ∀ k, ¬ s.entryMaps (s.gpr s1 + s.imm i) k)) →
      Completes (.prgadd s1 i) s (fun t => Traps .dtlb (s.gpr s1 + s.imm i) s t
        ∧ t.mmu.tlbExcause.getLsbD 18 = true ∧ t.mmu.tlbExcause.getLsbD 19 = false))
    ∧ ((isCRegSpace (s.gpr s1 + s.imm i) = true ∨ s.psw.getLsbD 2 = false
        ∨ (∃ k, s.onlyMaps (s.gpr s1 + s.imm i) k)
        ∨ (s.psw.getLsbD 3 = false ∧ ∀ k, ¬ s.entryMaps (s.gpr s1 + s.imm i) k)) →
      Completes (.prgadd s1 i) s (OnlyAdvances s))

/-- pft, prgset, sync, imml and immr in any mode, prgins and prginspg in supervisor mode change nothing but the PC (43
R430, R432, R433, R436, R437; 20 R160; 44 R466, R467; the model keeps no cache: assumption 20). -/
def Obligations.OperationsThatOnlyAdvance : Prop :=
  ∀ (s : State) (s1 : RegNum) (i : BitVec 9) (v : BitVec 23), s.alone →
    Completes (.pft s1 i) s (OnlyAdvances s) ∧ Completes (.prgset s1 i) s (OnlyAdvances s)
    ∧ Completes .sync s (OnlyAdvances s)
    ∧ Completes (.imml v) s (OnlyAdvances s) ∧ Completes (.immr v) s (OnlyAdvances s)
    ∧ (s.userMode = false → Completes .prgins s (OnlyAdvances s) ∧ Completes (.prginspg s1 i) s (OnlyAdvances s))

/-! ### Control transfer and system operations -/

/-- br and brf go to BUNDLE_PC + 4 * BTARG if taken, else to the next bundle; call writes the address of the next
bundle to R63 and jumps to its target, or to the old R63 in its link form (44 R450 to R452, R455, R456, R458; the PC
wraps and drops its low bits: assumption 34). -/
def Obligations.BranchAndCallResults : Prop :=
  ∀ (s : State) (c : BrNum) (o : BitVec 23), s.alone →
    Completes (.br c o) s
      (OnlyJumps (if s.br c then s.pc + (o.signExtend 32 <<< 2) else s.nextSeqPc s.bundle.words) s)
    ∧ Completes (.brf c o) s
      (OnlyJumps (if s.br c then s.nextSeqPc s.bundle.words else s.pc + (o.signExtend 32 <<< 2)) s)
    ∧ Completes (.call o) s (CallsTo (s.pc + (o.signExtend 32 <<< 2)) s)
    ∧ Completes .callLink s (CallsTo (s.gpr 63#6) s)

/-- goto jumps to its target, and to R63 in its link form; alone in a bundle and to itself it is the idle macro, which
also enters idle mode and sets PM_CR.IDLE when performance monitoring is off and the SDI output buffers are empty (44
R450, R453, R454, R468; 61 R690; when idle mode is entered: assumption 28). That R63 loses its low two bits on the way to
the PC is the choice of 44 R459, decision D20, and that the PC wraps is D19 (assumption 34). -/
def Obligations.GotoResults : Prop :=
  ∀ (s : State) (o : BitVec 23), s.alone →
    ((o ≠ 0#23 ∨ s.bundle.words ≠ 1 ∨ s.pm.enb = true ∨ s.sdiOutputsEmpty = false) →
      Completes (.goto o) s (fun t => OnlyJumps (s.pc + (o.signExtend 32 <<< 2)) s t ∧ t.idleMode = false))
    ∧ (o = 0#23 → s.bundle.words = 1 → s.pm.enb = false → s.sdiOutputsEmpty = true →
      Completes (.goto o) s (fun t => OnlyJumps s.pc s { t with pm := s.pm } ∧ t.idleMode = true
        ∧ t.pm = { s.pm with idle := true }))
    ∧ Completes .gotoLink s (OnlyJumps (s.gpr 63#6) s)

/-- rfi in supervisor mode: PC and PSW from the saved registers, the PSW through the write filter, the saved ones from
the second pair (44 R460; 60 R508; 10 R33). The filter is decision D21 (assumption 39), and that SAVED_PC loses its low
two bits on the way to the PC is the choice of 44 R459, decision D20 (assumption 34). That all this holds fewer than four
bundles after a write of the saved registers or of the PSW too, where 44 R460 leaves the values undefined, is the model's
choice (assumption 22). -/
def Obligations.ReturnFromExceptionResult : Prop :=
  ∀ (s : State), s.alone → s.userMode = false →
    Completes .rfi s (fun t => t.pc = s.trap.savedPc &&& 0xFFFFFFFC#32
      ∧ t.psw = (s.trap.savedPsw &&& 0x31F#32) ||| (s.trap.savedPsw &&& s.psw &&& 0x1000#32)
      ∧ t.trap = { s.trap with savedPc := s.trap.savedSavedPc, savedPsw := s.trap.savedSavedPsw }
      ∧ OnlyJumps s.trap.savedPc s { t with psw := s.psw, trap := s.trap })

/-- pswset and pswclr in supervisor mode: the PSW through the write filter, and nothing else but the PC (45 R471,
R472; 10 R33; the filter: assumption 39). -/
def Obligations.PswSetAndClearResults : Prop :=
  ∀ (s : State) (r : RegNum), s.alone → s.userMode = false →
    Completes (.pswset r) s (fun t =>
      t.psw = ((s.psw ||| s.gpr r) &&& 0x31F#32) ||| (s.psw &&& 0x1000#32) ∧ OnlyAdvances s { t with psw := s.psw })
    ∧ Completes (.pswclr r) s (fun t =>
      t.psw = (s.psw &&& ~~~(s.gpr r)) &&& 0x131F#32 ∧ OnlyAdvances s { t with psw := s.psw })

/-- rfi, pswset, pswclr, prgins and prginspg in user mode raise ILL_INST (30 R228). -/
def Obligations.PrivilegedOperationsTrapInUserMode : Prop :=
  ∀ (s : State) (r : RegNum) (i : BitVec 9), s.alone → s.userMode = true →
    TrapsOn .rfi s .illInst 0#32 ∧ TrapsOn (.pswset r) s .illInst 0#32 ∧ TrapsOn (.pswclr r) s .illInst 0#32
    ∧ TrapsOn .prgins s .illInst 0#32 ∧ TrapsOn (.prginspg r i) s .illInst 0#32

/-- sbrk, syscall and break take SBREAK, SYSCALL and ILL_INST in any mode; EXADDRESS is 0 and SAVED_PC is the bundle's
own address (45 R473, R474, R475; 60 R506, R510, R511; HANDLER_PC without its low two bits: decision D20, assumption 34). -/
def Obligations.TrapOperationsTakeTheirException : Prop :=
  ∀ (s : State) (n : BitVec 21), s.alone →
    TrapsOn (.sbrk n) s .sbreak 0#32 ∧ TrapsOn (.syscall n) s .syscall 0#32 ∧ TrapsOn .breakOp s .illInst 0#32

/-! ### Traps -/

/-- Exception entry writes EXCAUSENO, EXADDRESS, SAVED_PSW, SAVED_PC, four PSW bits and the PC, TLB_EXCAUSE for a TLB
cause only, and nothing else (60 R501, R506, R507, R510). That HANDLER_PC loses its low two bits on the way to the PC is
decision D20 (assumption 34); that EXADDRESS is the address for SDI_TIMEOUT is the spec's resolution of conflict C36 in 60
R510, and that it is 0 for a data bus error is decision D12 (20 R176: assumption 12). -/
def Obligations.ExceptionEntrySavesAndJumps : Prop :=
  ∀ (s : State) (r : Raised), ((s.takeException r).trap.excauseno.toNat =
      match r.cause with
      | .stbusIcError => 0 | .stbusDcError => 1 | .externInt => 2 | .ibreak => 3 | .itlb => 4 | .sbreak => 5
      | .illInst => 6 | .syscall => 7 | .dbreak => 8 | .misalignedTrap => 9 | .cregNoMapping => 10
      | .cregAccessViolation => 11 | .dtlb => 12 | .sdiTimeout => 14)
    ∧ (s.takeException r).trap.exaddress = (if r.cause ∈ [Cause.dbreak, .misalignedTrap, .cregNoMapping,
        .cregAccessViolation, .dtlb, .itlb, .sdiTimeout] then r.addr else 0#32)
    ∧ (∀ n, (s.takeException r).psw.getLsbD n =
        if n = 0 ∨ n = 1 ∨ n = 8 ∨ n = 9 then false else s.psw.getLsbD n)
    ∧ (s.takeException r).pc = s.trap.handlerPc &&& 0xFFFFFFFC#32
    ∧ (∀ record, r.tlb = some record → (s.takeException r).mmu.tlbExcause = record.word)
    ∧ ((r.cause ≠ .itlb → r.cause ≠ .dtlb → r.tlb = none) → Traps r.cause r.exceptAddress s (s.takeException r))

/-- Debug interrupt entry pushes the saved pair, saves PC and PSW, leaves user mode, disables interrupts, TLB and
breakpoints, sets DEBUG_MODE and goes to the second word of the debug ROM; it is taken at a boundary before anything
else (61 R610, R611; that address: assumption 40; that it goes before a pending bus error is the spec's choice in 60
R521, D27: assumption 32). -/
def Obligations.DebugInterruptEntry : Prop :=
  ∀ (s : State), s.boundary.dbgPending = true → s.boundary.psw.getLsbD 12 = false →
    ∃ t, step s = .next t
      ∧ t.trap = { s.boundary.trap with
          savedSavedPsw := s.boundary.trap.savedPsw, savedSavedPc := s.boundary.trap.savedPc
          savedPsw := s.boundary.psw, savedPc := s.boundary.pc }
      ∧ (∀ n, t.psw.getLsbD n =
          if n = 12 then true
          else if n = 0 ∨ n = 1 ∨ n = 2 ∨ n = 8 ∨ n = 9 then false else s.boundary.psw.getLsbD n)
      ∧ t.pc = s.boundary.cfg.peripheralBase + 0x4004#32 ∧ t.dbgPending = false ∧ t.regs = s.boundary.regs
      ∧ t.branch = s.boundary.branch ∧ t.mem = s.boundary.mem ∧ t.mmu = s.boundary.mmu ∧ t.brk = s.boundary.brk
      ∧ t.sdi = s.boundary.sdi ∧ t.intc = s.boundary.intc ∧ t.timers = s.boundary.timers
      ∧ t.dsu = s.boundary.dsu ∧ t.pins = s.boundary.pins ∧ t.cfg = s.boundary.cfg ∧ t.dcError = s.boundary.dcError
      ∧ t.pm.enb = s.boundary.pm.enb ∧ t.pm.idle = s.boundary.pm.idle ∧ t.pm.event = s.boundary.pm.event

/-- The asynchronous causes and the instruction breakpoint, with a bundle that can be fetched and no SDI access
waiting: STBUS_DC_ERROR before EXTERN_INT before IBREAK, the bundle at PC not executed (60 R520, R521; when a data bus
error is due: assumption 12; that an enabled interrupt is taken at this very boundary is the choice of 60 R522, D28:
assumption 11). -/
def Obligations.BoundaryCausesByPriority : Prop :=
  ∀ (s : State) (ws : List Word), s.boundary.debugAccepted = false → s.boundary.fetchBundle = .ok ws →
    s.boundary.sdiStalled = false →
    (s.boundary.dcError = some 0 → ∃ t, step s = .next t ∧ Traps .stbusDcError 0#32 s.boundary t
      ∧ t.dcError = none)
    ∧ (s.boundary.dcError ≠ some 0 → s.boundary.interruptAccepted = true →
      ∃ t, step s = .next t ∧ Traps .externInt 0#32 s.boundary t)
    ∧ (s.boundary.dcError ≠ some 0 → s.boundary.interruptAccepted = false →
      s.boundary.ibreakHit s.boundary.pc = true → ∃ t, step s = .next t ∧ Traps .ibreak 0#32 s.boundary t)

/-- Syllable `k` of a bundle, the earlier ones having words without a stop bit. If its fetch meets a bus error,
STBUS_IC_ERROR is taken, even if an earlier syllable may not be executed. If it has no mapping, two mappings or no
execute permission, the earlier ones are executable and no later one meets a bus error, ITLB is taken with its own
address (20 R137, R175; 60 R520, R521; 70 R720; a syllable whose word cannot be known: assumption 32; that a fetch from the
peripheral block outside the debug ROM is a bus error: assumption 35). -/
def Obligations.FetchFaultsTrap : Prop :=
  ∀ (s : State) (k : Nat), s.boundary.debugAccepted = false → s.boundary.boundaryCauses = [] → k < 4 →
    (∀ j, j < k → s.boundary.continuesAt (s.boundary.pc + BitVec.ofNat 32 (4 * j))) →
    (∀ pa, s.boundary.leadsTo (s.boundary.pc + BitVec.ofNat 32 (4 * k)) pa 0 →
      s.boundary.fetchFails pa → ∃ t, step s = .next t ∧ Traps .stbusIcError 0#32 s.boundary t)
    ∧ ((∀ j, j < k → ∃ pa, s.boundary.leadsTo (s.boundary.pc + BitVec.ofNat 32 (4 * j)) pa 0) →
      s.boundary.tlbRefuses (s.boundary.pc + BitVec.ofNat 32 (4 * k)) 0 →
      (∀ j pa, k < j → j < 4 → s.boundary.leadsTo (s.boundary.pc + BitVec.ofNat 32 (4 * j)) pa 0 →
        ¬ s.boundary.fetchFails pa) →
      ∃ t, step s = .next t ∧ Traps .itlb (s.boundary.pc + BitVec.ofNat 32 (4 * k)) s.boundary t
        ∧ t.mmu.tlbExcause.getLsbD 18 = false ∧ t.mmu.tlbExcause.getLsbD 19 = false)

/-- EXTERN_INT is accepted exactly when interrupts are enabled and an unmasked pending line, or IRQ_MASTER_IN, is
high; the timers are lines 2 to 0 and INTTEST bits count as lines (60 R540, R541, R547; sampling and the gate of
IRQ_MASTER_IN: assumption 11). -/
def Obligations.InterruptAcceptance : Prop :=
  ∀ (s : State), s.interruptAccepted = true ↔ s.psw.getLsbD 1 = true ∧
    (s.pins.irqMaster = true
    ∨ (∃ n : Fin 32, (s.intc.mask.get 0).getLsbD n.val = true
        ∧ ((s.intc.test.get 0).getLsbD n.val = true ∨ (3 ≤ n.val ∧ s.pins.irqLow.getLsbD n.val = true)
          ∨ ∃ i : Fin 3, i.val = n.val ∧ (s.timers.timer.get i).status = true
              ∧ (s.timers.timer.get i).intEnable = true))
    ∨ ∃ n : Fin 32, (s.intc.mask.get 1).getLsbD n.val = true
        ∧ ((s.intc.test.get 1).getLsbD n.val = true ∨ s.pins.irqHigh.getLsbD n.val = true))

/-- The breakpoint comparisons, their enables and the bits of the bounds that an instruction breakpoint ignores (61
R600, R601, R602; the enables are ORed: assumption 42). -/
def Obligations.BreakpointComparisons : Prop :=
  (∀ (control : BitVec 4) (lower upper a : Word), breakCompare control lower upper a = true ↔
    (control.getLsbD 0 = true ∧ lower ≤ a ∧ a ≤ upper) ∨ (control.getLsbD 1 = true ∧ (a < lower ∨ upper < a))
    ∨ (control.getLsbD 2 = true ∧ (a = lower ∨ a = upper)) ∨ (control.getLsbD 3 = true ∧ a &&& upper = lower))
  ∧ (∀ (s : State) (a : Word), s.dbreakHit a = true ↔
    s.psw.getLsbD 8 = true ∧ breakCompare s.brk.dControl s.brk.dLower s.brk.dUpper a = true)
  ∧ ∀ (s : State) (a : Word), s.ibreakHit a = true ↔
    s.psw.getLsbD 9 = true
    ∧ breakCompare s.brk.iControl (s.brk.iLower &&& ~~~3#32) (s.brk.iUpper &&& ~~~3#32) a = true

/-! ### Translation, the speculative control unit and the control registers -/

/-- An entry maps an address by the tag of its page size and its address space, and gives it the entry's page number;
a physical address hits the speculative control unit when its page lies between a region's bounds, both inclusive, and
after reset every address does (20 R132, R133, R145; reserved sizes: assumption 44). -/
def Obligations.PagesAndScuRegions : Prop :=
  (∀ (e : UtlbEntry) (asid : BitVec 8) (v : Word),
      (e.maps asid v = true ↔
        ((e.word0.extractLsb' 20 3 = 1#3 ∧ v.toNat / 2 ^ 13 = e.vaddr.toNat)
          ∨ (e.word0.extractLsb' 20 3 = 2#3 ∧ v.toNat / 2 ^ 22 = e.vaddr.toNat / 2 ^ 9)
          ∨ (e.word0.extractLsb' 20 3 = 3#3 ∧ v.toNat / 2 ^ 28 = e.vaddr.toNat / 2 ^ 15))
        ∧ (e.word0.getLsbD 8 = true ∨ e.word0.extractLsb' 0 8 = asid))
      ∧ (e.word0.extractLsb' 20 3 = 1#3 → (e.translate v).toNat = e.paddr.toNat * 2 ^ 13 + v.toNat % 2 ^ 13)
      ∧ (e.word0.extractLsb' 20 3 = 2#3 → (e.translate v).toNat = e.paddr.toNat / 2 ^ 9 * 2 ^ 22 + v.toNat % 2 ^ 22)
      ∧ (e.word0.extractLsb' 20 3 = 3#3 → (e.translate v).toNat = e.paddr.toNat / 2 ^ 15 * 2 ^ 28 + v.toNat % 2 ^ 28))
  ∧ (∀ (s : State) (pa : Word), s.scuHit pa = true ↔
    ∃ k : Fin 4, (s.mmu.scuBase.get k).toNat ≤ pa.toNat / 2 ^ 13 ∧ pa.toNat / 2 ^ 13 ≤ (s.mmu.scuLimit.get k).toNat)
  ∧ ∀ (pa : Word), State.reset.scuHit pa = true

/-- The 81 control registers and their addresses; every other address of control register space holds none (10 R40). -/
def Obligations.ControlRegisterMap : Prop :=
  ∀ (a : Word) (r : CReg), isCRegSpace a = true → (cregAt a = some r ↔ (a.toNat - 0xFFFF0000, r) ∈
    [trapRegisterMap, reservedAndDataBreakMap, debugAndMonitorMap, sdiRegisterMap, scuRegisterMap].flatten)

/-- A supervisor word load of a control register without a read side effect returns its value, and nothing else
changes, and so does a user load of SDIi_READY where PRIV allows it (10 R41; 61 R641); EXCAUSE reads one-hot, VERSION and PERIPHERAL_BASE read the parameters, TLB_ENTRYk reads the entry of
TLB_INDEX, TLB_ENTRY3 and TLB_CONTROL read 0 (20 R128, R139; 10 R45, R58, R64, R66), and the SCU, performance monitor and
SDI registers read as `DeviceRegisterValues` says (10 R69, R71, R72; 61 R646, R647, R651; SDIi_READY: assumptions 9 and
18). That the low 20 bits of PERIPHERAL_BASE read 0 is decision D2 on 10 R59, and that reserved registers read 0 is D26
(assumption 41). -/
def Obligations.ControlRegisterLoads : Prop :=
  (∀ (s : State) (d s1 : RegNum) (i : BitVec 9) (r : CReg), s.alone →
    (s.userMode = true → ∃ p, r = .sdiReady p ∧ (s.sdiPort p).priv = 1#2) →
    s.dbreakHit (s.gpr s1 + s.imm i) = false → isCRegSpace (s.gpr s1 + s.imm i) = true →
    cregAt (s.gpr s1 + s.imm i) = some r → r ≠ .tlbReplace → (∀ p, r ≠ .sdiData p) →
    Completes (.ldw d s1 i) s (WritesGpr d (s.cregValue r) s))
  ∧ ∀ (s : State), s.cregValue .psw = s.psw ∧ (s.cregValue .excause).toNat = 2 ^ s.trap.excauseno.toNat
    ∧ (s.cregValue .version).toNat = s.cfg.dsuVersion.toNat * 2 ^ 24 + 5 * 2 ^ 16 + s.cfg.productId.toNat
    ∧ (s.cregValue .peripheralBase).toNat = s.cfg.peripheralPins.toNat * 2 ^ 20
    ∧ (s.cregValue .tlbEntry0).toNat = (s.mmu.utlb.get s.mmu.tlbIndex.toFin).word0.toNat
    ∧ (s.cregValue .tlbEntry1).toNat = (s.mmu.utlb.get s.mmu.tlbIndex.toFin).vaddr.toNat
    ∧ (s.cregValue .tlbEntry2).toNat = (s.mmu.utlb.get s.mmu.tlbIndex.toFin).paddr.toNat
    ∧ s.cregValue .tlbEntry3 = 0#32 ∧ s.cregValue .tlbControl = 0#32 ∧ (∀ k, s.cregValue (.reserved k) = 0#32)
    ∧ DeviceRegisterValues s

/-- A supervisor word store to a control register changes its writable bits, which a load then returns with the others
0, and no other register of the list; a store to a read-only one, to TLB_ENTRY3 or to TLB_CONTROL changes nothing, nor does
a user store to SDIi_READY where PRIV allows access, which is decision D29 (60 R531: assumption 45) (10 R41 to R47, R57, R61 to R64, R67 to R70, R73; 20 R129). That SAVED_PC, SAVED_PSW, SAVED_SAVED_PC, SAVED_SAVED_PSW and
HANDLER_PC hold all 32 bits is decision D22 on 10 R43 (assumption 39); that a flush by TLB_CONTROL has no effect is
decision D16 (10 R66: assumption 21). -/
def Obligations.ControlRegisterStores : Prop :=
  (∀ (s : State) (s1 s2 : RegNum) (i : BitVec 9) (r : CReg) (mask : Word),
      (r, mask) ∈ trapRegisterMasks ++ debugRegisterMasks →
      s.alone → s.userMode = false → s.dbreakHit (s.gpr s1 + s.imm i) = false →
      isCRegSpace (s.gpr s1 + s.imm i) = true → cregAt (s.gpr s1 + s.imm i) = some r →
      Completes (.stw s1 i s2) s (fun t => t.cregValue r = s.gpr s2 &&& mask
        ∧ (∀ q, q ∈ [CReg.psw, .savedPsw, .savedPc, .handlerPc, .exaddress, .savedSavedPsw, .savedSavedPc, .scratch1,
            .scratch2, .scratch3, .scratch4, .excauseno, .tlbIndex, .tlbEntry0, .tlbEntry1, .tlbEntry2, .tlbExcause,
            .tlbReplace, .tlbAsid, .dbreakLower, .dbreakUpper, .dbreakControl, .ibreakLower, .ibreakUpper,
            .ibreakControl, .state1] → q ≠ r → t.cregValue q = s.cregValue q)
        ∧ OnlyAdvances s { t with trap := s.trap, mmu := s.mmu, brk := s.brk }
        ∧ t.mmu.scuBase = s.mmu.scuBase ∧ t.mmu.scuLimit = s.mmu.scuLimit
        ∧ ∀ k, k ≠ s.mmu.tlbIndex.toFin → t.mmu.utlb.get k = s.mmu.utlb.get k))
  ∧ ∀ (s : State) (s1 s2 : RegNum) (i : BitVec 9) (r : CReg),
      (r ∈ [CReg.psw, .excause, .version, .peripheralBase, .tlbEntry3, .tlbControl] ∨ (∃ k, r = .reserved k)
        ∨ ∃ p, r = .sdiReady p) →
      s.alone → (s.userMode = true → ∃ p, r = .sdiReady p ∧ (s.sdiPort p).priv = 1#2) →
      s.dbreakHit (s.gpr s1 + s.imm i) = false →
      isCRegSpace (s.gpr s1 + s.imm i) = true → cregAt (s.gpr s1 + s.imm i) = some r →
      Completes (.stw s1 i s2) s (OnlyAdvances s)

/-- TLB_INDEX takes a store of 0 to 63 and ignores one of 64 to 255; a store to TLB_REPLACE writes LFSR and LIMIT; a
load of it returns them and then clocks the LFSR, whose step has the XOR of bits 3, 12, 14 and 15 as its feedback, never
gives 0 from another value and runs through 65535 values from the seed of reset (10 R60, R65; 20 R139, R140; that it
shifts left is deduced from its length: assumption 16). -/
def Obligations.TlbIndexAndReplace : Prop :=
  (∀ (s : State) (s1 s2 : RegNum) (i : BitVec 9), s.alone → s.userMode = false →
    s.gpr s1 + s.imm i = 0xFFFFFF80#32 → s.dbreakHit (0xFFFFFF80#32) = false →
    Completes (.stw s1 i s2) s (fun t => t.mmu.tlbIndex.toNat =
        (if (s.gpr s2).toNat % 256 < 64 then (s.gpr s2).toNat % 256 else s.mmu.tlbIndex.toNat)
      ∧ { t.mmu with tlbIndex := s.mmu.tlbIndex } = s.mmu ∧ OnlyAdvances s { t with mmu := s.mmu }))
  ∧ (∀ (s : State) (s1 s2 : RegNum) (i : BitVec 9), s.alone → s.userMode = false →
    s.gpr s1 + s.imm i = 0xFFFFFF48#32 → s.dbreakHit (0xFFFFFF48#32) = false →
    Completes (.stw s1 i s2) s (fun t => t.mmu.lfsr.toNat = (s.gpr s2).toNat % 2 ^ 16
      ∧ t.mmu.limit.toNat = (s.gpr s2).toNat / 2 ^ 16 % 2 ^ 8
      ∧ { t.mmu with lfsr := s.mmu.lfsr, limit := s.mmu.limit } = s.mmu ∧ OnlyAdvances s { t with mmu := s.mmu }))
  ∧ (∀ (s : State) (d s1 : RegNum) (i : BitVec 9), s.alone → s.userMode = false →
    s.gpr s1 + s.imm i = 0xFFFFFF48#32 → s.dbreakHit (0xFFFFFF48#32) = false →
    Completes (.ldw d s1 i) s (fun t =>
      WritesGpr d (0#8 ++ s.mmu.limit ++ s.mmu.lfsr) s { t with mmu := s.mmu }
      ∧ t.mmu = { s.mmu with lfsr := lfsrStep s.mmu.lfsr }))
  ∧ (∀ (x : BitVec 16) (n : Nat), (lfsrStep x).getLsbD n =
      if n = 0 then x.getLsbD 3 ^^ x.getLsbD 12 ^^ x.getLsbD 14 ^^ x.getLsbD 15
      else decide (n < 16) && x.getLsbD (n - 1))
  ∧ (∀ (x : BitVec 16), lfsrStep x = 0#16 → x = 0#16)
  ∧ lfsrStep^[65535] 0xFFFF#16 = 0xFFFF#16 ∧ ∀ n, 0 < n → n < 65535 → lfsrStep^[n] 0xFFFF#16 ≠ 0xFFFF#16

/-- A supervisor word store to SCU_BASEk, SCU_LIMITk, PM_CR, PM_CNTk, PM_PCLK, SDIi_CONTROL, SDIi_COUNT or
SDIi_TIMEOUT writes its writable bits and nothing else, but that with counting on the counters not stored to go on; PM_CR
can clear the counters and IDLE, and a master port that sets RESETOUTPUT empties its channel (10 R69, R71; 61 R647, R650,
R651, R680, R682; that ENB gates PM_PCLK too, and what is counted: assumption 17; channel reset: assumption 19). -/
def Obligations.DeviceControlRegisterStores : Prop :=
  ∀ (s : State) (s1 s2 : RegNum) (i : BitVec 9), s.alone → s.userMode = false →
    s.dbreakHit (s.gpr s1 + s.imm i) = false → isCRegSpace (s.gpr s1 + s.imm i) = true →
    (∀ k : Fin 4, cregAt (s.gpr s1 + s.imm i) = some (.scuBase k) → Completes (.stw s1 i s2) s (fun t =>
      t.mmu = { s.mmu with scuBase := s.mmu.scuBase.set k.val ((s.gpr s2).setWidth 19) k.isLt }
      ∧ OnlyAdvances s { t with mmu := s.mmu }))
    ∧ (∀ k : Fin 4, cregAt (s.gpr s1 + s.imm i) = some (.scuLimit k) → Completes (.stw s1 i s2) s (fun t =>
      t.mmu = { s.mmu with scuLimit := s.mmu.scuLimit.set k.val ((s.gpr s2).setWidth 19) k.isLt }
      ∧ OnlyAdvances s { t with mmu := s.mmu }))
    ∧ (cregAt (s.gpr s1 + s.imm i) = some .pmCr → Completes (.stw s1 i s2) s (fun t =>
      t.pm.enb = (s.gpr s2).getLsbD 0 ∧ t.pm.idle = (s.pm.idle && !(s.gpr s2).getLsbD 2)
      ∧ (∀ k : Fin 4, t.pm.event.get k = (s.gpr s2).extractLsb' (12 + 5 * k.val) 5
          ∧ t.pm.cnt.get k = if (s.gpr s2).getLsbD 1 then 0#32 else s.pm.cnt.get k)
      ∧ ((s.gpr s2).getLsbD 1 = true → t.pm.pclk = 0#32)
      ∧ ((s.gpr s2).getLsbD 1 = false → s.pm.enb = false → t.pm.pclk = s.pm.pclk)
      ∧ OnlyAdvances s { t with pm := s.pm }))
    ∧ (∀ k : Fin 4, cregAt (s.gpr s1 + s.imm i) = some (.pmCnt k) → Completes (.stw s1 i s2) s (fun t =>
      t.pm.cnt.get k = s.gpr s2
      ∧ (s.pm.enb = false → t.pm = { s.pm with cnt := s.pm.cnt.set k.val (s.gpr s2) k.isLt })
      ∧ (s.pm.enb = true → ∀ j, j ≠ k → CountsIn j [10, 11, 18] s t)
      ∧ { t.pm with cnt := s.pm.cnt, pclk := s.pm.pclk } = s.pm
      ∧ OnlyAdvances s { t with pm := s.pm }))
    ∧ (cregAt (s.gpr s1 + s.imm i) = some .pmPclk → Completes (.stw s1 i s2) s (fun t =>
      t.pm.pclk = s.gpr s2 ∧ (s.pm.enb = false → t.pm = { s.pm with pclk := s.gpr s2 })
      ∧ (s.pm.enb = true → Counts [10, 11, 18] s t) ∧ { t.pm with cnt := s.pm.cnt, pclk := s.pm.pclk } = s.pm
      ∧ OnlyAdvances s { t with pm := s.pm }))
    ∧ (∀ p, cregAt (s.gpr s1 + s.imm i) = some (.sdiCount p) → Completes (.stw s1 i s2) s (fun t =>
      t.sdi = s.sdi.set p.val { s.sdiPort p with count := s.gpr s2 } p.isLt
      ∧ OnlyAdvances s { t with sdi := s.sdi }))
    ∧ (∀ p, cregAt (s.gpr s1 + s.imm i) = some (.sdiTimeout p) → Completes (.stw s1 i s2) s (fun t =>
      t.sdi = s.sdi.set p.val { s.sdiPort p with timeout := s.gpr s2 } p.isLt
      ∧ OnlyAdvances s { t with sdi := s.sdi }))
    ∧ ∀ p, cregAt (s.gpr s1 + s.imm i) = some (.sdiControl p) → Completes (.stw s1 i s2) s (fun t =>
      t.sdi = s.sdi.set p.val
        { s.sdiPort p with
          priv := (s.gpr s2).setWidth 2
          resetOutput := (s.gpr s2).getLsbD 3
          timeoutDisable := (s.gpr s2).getLsbD 7
          queue := if (s.sdiParams p).isMaster = true ∧ (s.gpr s2).getLsbD 3 = true ∧ (s.sdiPort p).resetOutput = false
            then [] else (s.sdiPort p).queue } p.isLt
      ∧ OnlyAdvances s { t with sdi := s.sdi })

/-! ### Streaming data interface, performance monitor and peripherals -/

/-- A load of SDIi_DATA of an input port takes the oldest word, or waits: the timeout counts down, and at 0
SDI_TIMEOUT is taken; a store of an output port appends, or waits; the other direction has no effect. While the channel is
being reset no access waits or reloads TIMEOUT: a load gives some value, a store of an output port is taken or not, which is
the model's choice (61 R650: assumption 19) (61 R643, R644, R648; a step of waiting is a clock: assumption 43; the EXADDRESS of SDI_TIMEOUT is the spec's resolution of conflict
C36 in 60 R510). -/
def Obligations.SdiDataAccesses : Prop :=
  ∀ (s : State) (p : Fin 4) (d s1 : RegNum) (i : BitVec 9), s.alone →
    (s.userMode = true → (s.sdiPort p).priv = 1#2) →
    s.gpr s1 + s.imm i = 0xFFFFE000#32 + BitVec.ofNat 32 (0x400 * p.val) →
    s.dbreakHit (s.gpr s1 + s.imm i) = false →
    (s.sdiInReset p = true → Completes (.ldw d s1 i) s (fun t => ∃ v, WritesGpr d v s t)
      ∧ ((s.sdiParams p).isInput = true → Completes (.stw s1 i d) s (OnlyAdvances s))
      ∧ ((s.sdiParams p).isInput = false → Completes (.stw s1 i d) s (fun t =>
        OnlyAdvances s { t with sdi := s.sdi } ∧ (∀ q, q ≠ p → t.sdiPort q = s.sdiPort q)
        ∧ (t.sdiPort p = s.sdiPort p
          ∨ t.sdiPort p = { s.sdiPort p with queue := (s.sdiPort p).queue ++ [s.gpr d] }
            ∧ (s.sdiPort p).queue.length < (s.sdiParams p).depth))))
    ∧ (s.sdiInReset p = false →
      (∀ v rest, (s.sdiParams p).isInput = true → (s.sdiPort p).queue = v :: rest →
        Completes (.ldw d s1 i) s (fun t => WritesGpr d v s { t with sdi := s.sdi }
          ∧ t.sdiPort p = { s.sdiPort p with queue := rest, timeout := (s.sdiPort p).count }
          ∧ ∀ q, q ≠ p → t.sdiPort q = s.sdiPort q))
      ∧ ((s.sdiParams p).isInput = true → (s.sdiPort p).queue = [] → (s.sdiPort p).timeoutDisable = false →
        (s.sdiPort p).timeout ≠ 0#32 →
        Completes (.ldw d s1 i) s (fun t => Waits s { t with sdi := s.sdi }
          ∧ t.sdiPort p = { s.sdiPort p with timeout := (s.sdiPort p).timeout - 1#32 }
          ∧ ∀ q, q ≠ p → t.sdiPort q = s.sdiPort q))
      ∧ ((s.sdiParams p).isInput = true → (s.sdiPort p).queue = [] → (s.sdiPort p).timeoutDisable = true →
        Completes (.ldw d s1 i) s (Waits s))
      ∧ ((s.sdiParams p).isInput = true → (s.sdiPort p).queue = [] → (s.sdiPort p).timeoutDisable = false →
        (s.sdiPort p).timeout = 0#32 → TrapsOn (.ldw d s1 i) s .sdiTimeout (s.gpr s1 + s.imm i))
      ∧ ((s.sdiParams p).isInput = true → Completes (.stw s1 i d) s (OnlyAdvances s))
      ∧ ((s.sdiParams p).isInput = false → Completes (.ldw d s1 i) s (WritesGpr d 0#32 s))
      ∧ ((s.sdiParams p).isInput = false → (s.sdiPort p).queue.length < (s.sdiParams p).depth →
        Completes (.stw s1 i d) s (fun t => OnlyAdvances s { t with sdi := s.sdi }
          ∧ t.sdiPort p =
            { s.sdiPort p with queue := (s.sdiPort p).queue ++ [s.gpr d], timeout := (s.sdiPort p).count }
          ∧ ∀ q, q ≠ p → t.sdiPort q = s.sdiPort q))
      ∧ ((s.sdiParams p).isInput = false → (s.sdiParams p).depth ≤ (s.sdiPort p).queue.length →
        ((s.sdiPort p).timeoutDisable = true → Completes (.stw s1 i d) s (Waits s))
        ∧ ((s.sdiPort p).timeoutDisable = false → (s.sdiPort p).timeout ≠ 0#32 →
          Completes (.stw s1 i d) s (fun t => Waits s { t with sdi := s.sdi }
            ∧ t.sdiPort p = { s.sdiPort p with timeout := (s.sdiPort p).timeout - 1#32 }
            ∧ ∀ q, q ≠ p → t.sdiPort q = s.sdiPort q))
        ∧ ((s.sdiPort p).timeoutDisable = false → (s.sdiPort p).timeout = 0#32 →
          TrapsOn (.stw s1 i d) s .sdiTimeout (s.gpr s1 + s.imm i))))

/-- With counting on, which of the events 10 to 15, 18 and 21 each kind of committed operation counts: bundles,
load/stores (the printed list), taken and untaken branches, operations, long immediates; an exception entry counts event
14, a debug entry too, and an EXTERN_INT entry both 14 and 15. Reserved events never count, and with counting off nothing
does (61 R680 to R684). That EXTERN_INT counts in both and that ENB gates PM_PCLK too are readings of the spec, R684 and
R680 (decision D35, assumption 17). -/
def Obligations.PerformanceCounters : Prop :=
  (∀ (s : State), s.alone → s.pm.enb = true →
    (∀ d a b, Completes (.addR d a b) s (Counts [10, 18] s))
    ∧ (∀ d s1 i pa, s.reaches .word (s.gpr s1 + s.imm i) pa 1 → Completes (.ldw d s1 i) s (Counts [10, 11, 18] s))
    ∧ (∀ s1 i s2 pa, s.reaches .word (s.gpr s1 + s.imm i) pa 2 → Completes (.stw s1 i s2) s (Counts [10, 11, 18] s))
    ∧ (∀ r o, ∀ i ∈ [Instr.pft r o, .prgset r o, .sync], Completes i s (Counts [10, 11, 18] s))
    ∧ (∀ r o, ∀ i ∈ [Instr.prginspg r o, .pswset r, .pswclr r], s.userMode = false →
      Completes i s (Counts [10, 11, 18] s))
    ∧ (s.userMode = false → Completes .prgins s (Counts [10, 18] s) ∧ Completes .rfi s (Counts [10, 12, 18] s))
    ∧ (∀ o, ∀ i ∈ [Instr.goto o, .gotoLink, .call o, .callLink], Completes i s (Counts [10, 12, 18] s))
    ∧ (∀ c o, Completes (.br c o) s (Counts [10, if s.br c then 12 else 13, 18] s)
      ∧ Completes (.brf c o) s (Counts [10, if s.br c then 13 else 12, 18] s))
    ∧ (∀ v, ∀ i ∈ [Instr.imml v, .immr v], Completes i s (Counts [10, 21] s))
    ∧ (∀ n m, ∀ i ∈ [Instr.sbrk n, .syscall m, .breakOp], Completes i s (Counts [14] s)))
  ∧ (∀ (s : State) (r : Raised), s.pm.enb = true →
    Counts (if r.cause = .externInt then [14, 15] else [14]) s (s.takeException r))
  ∧ (∀ (s : State), s.boundary.pm.enb = true →
    (s.boundary.debugAccepted = true → ∃ t, step s = .next t ∧ Counts [14] s.boundary t)
    ∧ (∀ ws, s.boundary.debugAccepted = false → s.boundary.fetchBundle = .ok ws → s.boundary.dcError ≠ some 0 →
      s.boundary.interruptAccepted = true → ∃ t, step s = .next t ∧ Counts [14, 15] s.boundary t))
  ∧ ∀ (s : State), s.pm.enb = false → (∀ es, (s.advance es).pm = s.pm) ∧ (∀ r, (s.takeException r).pm = s.pm)
    ∧ s.enterDebug.pm = s.pm

/-- A word store to an interrupt controller register writes INTMASK or INTTEST, or sets or clears bits of it, and
changes nothing else; INTPENDING ignores it. One to a timer register writes it, a 1 written to STATUS clearing it. A
store by the core to a DSU register does as `DsuStores` says, and the host's actions on them do as `HostActions` says (10
R81, R82, R84; 60 R542, R545, R547; 61 R661, R667, R668, R673, R674; assumptions 26, 27 and 29). -/
def Obligations.PeripheralStores : Prop :=
  (∀ (s : State) (s1 s2 : RegNum) (i : BitVec 9) (k : Fin 2), s.alone → s.cfg.wf = true →
      s.dbreakHit (s.gpr s1 + s.imm i) = false → isCRegSpace (s.gpr s1 + s.imm i) = false → s.tlbEnable = false →
      (∀ offset (f : IntCtl → Word → IntCtl),
        (offset = 0x10 + 8 * k.val ∧ (f = fun c v => { c with mask := c.mask.set k.val v k.isLt }))
        ∨ (offset = 0x118 + 8 * k.val
            ∧ (f = fun c v => { c with mask := c.mask.set k.val (c.mask.get k ||| v) k.isLt }))
        ∨ (offset = 0x108 + 8 * k.val
            ∧ (f = fun c v => { c with mask := c.mask.set k.val (c.mask.get k &&& ~~~v) k.isLt }))
        ∨ (offset = 0x20 + 8 * k.val ∧ (f = fun c v => { c with test := c.test.set k.val v k.isLt }))
        ∨ (offset = 0x40 + 8 * k.val
            ∧ (f = fun c v => { c with test := c.test.set k.val (c.test.get k ||| v) k.isLt }))
        ∨ (offset = 0x30 + 8 * k.val
            ∧ (f = fun c v => { c with test := c.test.set k.val (c.test.get k &&& ~~~v) k.isLt }))
        ∨ (offset = 8 * k.val ∧ (f = fun c _ => c)) →
        s.gpr s1 + s.imm i = s.cfg.intcrBase + BitVec.ofNat 32 offset →
        Completes (.stw s1 i s2) s (fun t => t.intc = f s.intc (s.gpr s2) ∧ OnlyAdvances s { t with intc := s.intc })))
  ∧ (∀ (s : State) (s1 s2 : RegNum) (i : BitVec 9) (k : Fin 3), s.alone → s.cfg.wf = true →
      s.dbreakHit (s.gpr s1 + s.imm i) = false → isCRegSpace (s.gpr s1 + s.imm i) = false → s.tlbEnable = false →
      (∀ offset (f : Timer → Word → Timer),
        (offset = 0x200 + 0x18 * k.val ∧ (f = fun c v => { c with const := v }))
        ∨ (offset = 0x208 + 0x18 * k.val ∧ (f = fun c v => { c with count := v }))
        ∨ (offset = 0x210 + 0x18 * k.val ∧ (f = fun c v =>
            { c with enable := v.getLsbD 0, intEnable := v.getLsbD 1, status := c.status && !v.getLsbD 2 })) →
        s.gpr s1 + s.imm i = s.cfg.intcrBase + BitVec.ofNat 32 offset →
        Completes (.stw s1 i s2) s (fun t => t.timers.timer.get k = f (s.timers.timer.get k) (s.gpr s2)
          ∧ (∀ j, j ≠ k → t.timers.timer.get j = s.timers.timer.get j)
          ∧ t.timers.divide = s.timers.divide ∧ t.timers.presc = s.timers.presc
          ∧ OnlyAdvances s { t with timers := s.timers }))
      ∧ (s.gpr s1 + s.imm i = s.cfg.intcrBase + 0x248#32 →
        Completes (.stw s1 i s2) s (fun t =>
          t.timers = { s.timers with divide := (s.gpr s2).setWidth 16, presc := 0 }
          ∧ OnlyAdvances s { t with timers := s.timers })))
  ∧ (∀ (s : State) (s1 s2 : RegNum) (i : BitVec 9) (n : Fin 32), s.alone → s.cfg.wf = true →
    s.dbreakHit (s.gpr s1 + s.imm i) = false → isCRegSpace (s.gpr s1 + s.imm i) = false → s.tlbEnable = false →
    s.gpr s1 + s.imm i = s.cfg.dsuBase + BitVec.ofNat 32 (8 * n.val) → DsuStores (.stw s1 i s2) n (s.gpr s2) s)
  ∧ ∀ (s : State), HostActions s

/-- A word load, dismissible too where the SCU allows it, from an address of the peripheral block that holds a register
returns its value and changes nothing else. The registers stand at their offsets; INTPENDING, TIMECONTROL, the debug support unit's registers and the debug ROM
read as the spec says, and that the set and clear registers read 0 is decision D25 on 10 R81 (assumption 41). A load or
store whose bus access fails makes a bus error pending; the load's destination gets some value, and every other register is
unchanged. So does every part-word access to the block, and (assumption 35, 93 H17) a word access where no register stands;
a word store to the ROM is ignored (10 R81 to R85; 60 R541, R547; 61 R661, R667, R668, R670; 20 R176, R177; assumptions 12,
13, 25 and 46). -/
def Obligations.PeripheralLoadsAndBusErrors : Prop :=
  (∀ (s : State) (d s1 : RegNum) (i : BitVec 9) (pa : Word) (r : PeriphReg), s.alone →
    s.dbreakHit (s.gpr s1 + s.imm i) = false → isCRegSpace (s.gpr s1 + s.imm i) = false →
    Width.misaligned .word (s.gpr s1 + s.imm i) = false → s.leadsTo (s.gpr s1 + s.imm i) pa 1 →
    inPeripheralBlock s.cfg pa = true → periphAt s.cfg pa = some r →
    Completes (.ldw d s1 i) s (WritesGpr d (s.periphValue r) s)
      ∧ (s.scuHit pa = true → Completes (.ldwD d s1 i) s (WritesGpr d (s.periphValue r) s)))
  ∧ (∀ (p : Params), p.wf = true →
    (∀ n : Fin 32, periphAt p (p.dsuBase + BitVec.ofNat 32 (8 * n.val)) = some (.dsr n))
    ∧ (∀ n : Fin 256, periphAt p (p.peripheralBase + 0x4000#32 + BitVec.ofNat 32 (4 * n.val)) = some (.rom n))
    ∧ (∀ k : Fin 2, ∀ x ∈ [(0x000, PeriphReg.intPending k), (0x010, .intMask k), (0x020, .intTest k), (0x030, .intClr k),
        (0x040, .intSet k), (0x108, .intMaskClr k), (0x118, .intMaskSet k)],
        periphAt p (p.intcrBase + BitVec.ofNat 32 (x.1 + 8 * k.val)) = some x.2)
    ∧ (∀ i : Fin 3, ∀ x ∈ [(0x200, PeriphReg.timeConst i), (0x208, .timeCount i), (0x210, .timeControl i)],
        periphAt p (p.intcrBase + BitVec.ofNat 32 (x.1 + 0x18 * i.val)) = some x.2)
    ∧ periphAt p (p.intcrBase + 0x248#32) = some .timeDivide)
  ∧ (∀ (s : State) (k : Fin 2) (i : Fin 3),
    s.periphValue (.intMask k) = s.intc.mask.get k ∧ s.periphValue (.intTest k) = s.intc.test.get k
    ∧ s.periphValue (.intClr k) = 0#32 ∧ s.periphValue (.intSet k) = 0#32 ∧ s.periphValue (.intMaskClr k) = 0#32
    ∧ s.periphValue (.intMaskSet k) = 0#32
    ∧ (∀ n : Fin 32, (s.periphValue (.intPending 1)).getLsbD n.val =
        (s.pins.irqHigh.getLsbD n.val || (s.intc.test.get 1).getLsbD n.val))
    ∧ (∀ n : Fin 32, 3 ≤ n.val → (s.periphValue (.intPending 0)).getLsbD n.val =
        (s.pins.irqLow.getLsbD n.val || (s.intc.test.get 0).getLsbD n.val))
    ∧ (s.periphValue (.intPending 0)).getLsbD i.val =
        ((s.timers.timer.get i).status && (s.timers.timer.get i).intEnable || (s.intc.test.get 0).getLsbD i.val)
    ∧ s.periphValue (.timeConst i) = (s.timers.timer.get i).const
    ∧ s.periphValue (.timeCount i) = (s.timers.timer.get i).count
    ∧ (s.periphValue (.timeControl i)).toNat = (s.timers.timer.get i).enable.toNat
        + 2 * (s.timers.timer.get i).intEnable.toNat + 4 * (s.timers.timer.get i).status.toNat
    ∧ s.periphValue .timeDivide = s.timers.divide.setWidth 32 ∧ s.periphValue .intReserved = 0#32
    ∧ DebugRegisterValues s)
  ∧ (∀ (s : State) (d s1 : RegNum) (i : BitVec 9) (pa : Word), s.alone →
    s.dbreakHit (s.gpr s1 + s.imm i) = false → isCRegSpace (s.gpr s1 + s.imm i) = false →
    inPeripheralBlock s.cfg pa = true →
    (∀ op w, (op, w) ∈ [(Instr.ldh, Width.half), (.ldhu, .half), (.ldb, .byte), (.ldbu, .byte)] →
      w.misaligned (s.gpr s1 + s.imm i) = false → s.leadsTo (s.gpr s1 + s.imm i) pa 1 →
      LoadMeetsBusError (op d s1 i) d s)
    ∧ (∀ op w, (op, w) ∈ [(Instr.ldhD, Width.half), (.ldhuD, .half), (.ldbD, .byte), (.ldbuD, .byte)] →
      w.misaligned (s.gpr s1 + s.imm i) = false → s.leadsTo (s.gpr s1 + s.imm i) pa 1 → s.scuHit pa = true →
      LoadMeetsBusError (op d s1 i) d s)
    ∧ (∀ op w, (op, w) ∈ [(Instr.sth, Width.half), (.stb, .byte)] →
      w.misaligned (s.gpr s1 + s.imm i) = false → s.leadsTo (s.gpr s1 + s.imm i) pa 2 →
      StoreMeetsBusError (op s1 i d) s)
    ∧ (periphAt s.cfg pa = none → Width.misaligned .word (s.gpr s1 + s.imm i) = false →
      (s.leadsTo (s.gpr s1 + s.imm i) pa 1 → LoadMeetsBusError (.ldw d s1 i) d s
        ∧ (s.scuHit pa = true → LoadMeetsBusError (.ldwD d s1 i) d s))
      ∧ (s.leadsTo (s.gpr s1 + s.imm i) pa 2 → StoreMeetsBusError (.stw s1 i d) s))
    ∧ ∀ n, periphAt s.cfg pa = some (.rom n) → Width.misaligned .word (s.gpr s1 + s.imm i) = false →
      s.leadsTo (s.gpr s1 + s.imm i) pa 2 → Completes (.stw s1 i d) s (OnlyAdvances s))
  ∧ ∀ (s : State) (d s1 : RegNum) (i : BitVec 9) (pa : Word), s.alone →
    (∀ op w, (op, w) ∈ [(Instr.ldw, Width.word), (.ldh, .half), (.ldhu, .half), (.ldb, .byte), (.ldbu, .byte)] →
      s.reaches w (s.gpr s1 + s.imm i) pa 1 → busReadError s.cfg pa = true → LoadMeetsBusError (op d s1 i) d s)
    ∧ (∀ op w, (op, w) ∈ [(Instr.ldwD, Width.word), (.ldhD, .half), (.ldhuD, .half), (.ldbD, .byte), (.ldbuD, .byte)] →
      s.reaches w (s.gpr s1 + s.imm i) pa 1 → s.scuHit pa = true → busReadError s.cfg pa = true →
      LoadMeetsBusError (op d s1 i) d s)
    ∧ (∀ op w, (op, w) ∈ [(Instr.stw, Width.word), (.sth, .half), (.stb, .byte)] →
      s.reaches w (s.gpr s1 + s.imm i) pa 2 → busWriteError s.cfg pa = true →
      Completes (op s1 i d) s (fun t => t.dcError.isSome = true
        ∧ (∀ a : Nat, (∀ k, k < w.bytes → a ≠ byteAddr pa k) → t.mem.read a = s.mem.read a)
        ∧ OnlyAdvances s { t with dcError := s.dcError, mem := s.mem }))

/-- A timer counts down once every DIVIDE + 1 bus clocks and, COUNT + 1 ticks on, has reloaded CONST and set STATUS; a
disabled timer stands still (60 R545, R546; the hidden prescaler: assumption 29). -/
def Obligations.TimerPeriod : Prop :=
  (∀ (s : State) (i : Fin 3) (n : Nat), s.timers.presc = 0 → (s.timers.timer.get i).enable = true →
    n ≤ (s.timers.timer.get i).count.toNat →
    (State.busClock^[n * (s.timers.divide.toNat + 1)] s).timers.timer.get i =
      { s.timers.timer.get i with count := (s.timers.timer.get i).count - BitVec.ofNat 32 n })
  ∧ (∀ (s : State) (i : Fin 3), s.timers.presc = 0 → (s.timers.timer.get i).enable = true →
    (State.busClock^[((s.timers.timer.get i).count.toNat + 1) * (s.timers.divide.toNat + 1)] s).timers.timer.get i =
      { s.timers.timer.get i with count := (s.timers.timer.get i).const, status := true })
  ∧ ∀ (s : State) (i : Fin 3) (n : Nat), (s.timers.timer.get i).enable = false →
    (State.busClock^[n] s).timers.timer.get i = s.timers.timer.get i

/-! ### Reset and the whole machine -/

/-- The state after reset, for any parameters, memory and pins, where the spec gives a value (70 R700, R702; memory
stays: assumption 36). -/
def Obligations.ResetState : Prop :=
  ∀ (cfg : Params) (m : Memory) (pins : Pins) (inputs : List (List EnvEvent)) (sent : List DsuMessage) (n : Nat),
    let s := State.resetWith cfg m pins inputs sent n
    s.pc = (if cfg.debugEnableAtReset then (cfg.peripheralPins ++ 0#20) + 0x4000#32 else alignDown cfg.bootAddress)
    ∧ s.psw = 0#32 ∧ s.trap.excauseno = 0#5 ∧ s.cregValue .excause = 1#32
    ∧ s.cregValue .tlbIndex = 0#32 ∧ s.cregValue .tlbReplace = 0x0040FFFF#32 ∧ s.cregValue .tlbControl = 0#32
    ∧ s.cregValue .tlbAsid = 0#32 ∧ s.cregValue .tlbExcause = 0#32 ∧ s.cregValue .state1 = 0#32
    ∧ (∀ k, s.cregValue (.scuBase k) = 0#32 ∧ s.cregValue (.scuLimit k) = 0x0007FFFF#32)
    ∧ s.brk = ⟨0#32, 0#32, 0#4, 0#32, 0#32, 0#4⟩ ∧ s.cregValue .pmCr = 0#32
    ∧ (∀ p, (s.sdiPort p).priv = 0#2 ∧ (s.sdiPort p).resetOutput = false ∧ (s.sdiPort p).timeoutDisable = false
        ∧ (s.sdiPort p).count = (s.sdiParams p).countReset
        ∧ (s.cregValue (.sdiControl p)).getLsbD 2 = pins.sdiReset.get p)
    ∧ (∀ k, s.intc.mask.get k = 0#32 ∧ s.intc.test.get k = 0#32)
    ∧ (∀ i, s.timers.timer.get i = ⟨0#32, 0#32, false, false, false⟩) ∧ s.timers.divide = 0#16
    ∧ s.dsrValue 1 = 2#32 ||| (BitVec.ofBool cfg.bigEndian).setWidth 32 <<< 3
        ||| (BitVec.ofBool pins.triggerIn).setWidth 32 <<< 6
    ∧ (∀ n : Fin 32, 2 ≤ n.val → s.dsrValue n = 0#32) ∧ s.mem = m ∧ s.gpr 0#6 = 0#32

/-- Every step keeps memory canonical, the PC word-aligned, the reserved bits of PSW and TLB_EXCAUSE zero, and ends
between bundles (10 R21, R30, R68). -/
def Obligations.InvariantIsKeptByEveryStep : Prop :=
  ∀ (s t : State), s.Inv → step s = .next t → t.Inv

/-- The invariants of the machine and of the debug support unit hold after reset, for any parameters. -/
def Obligations.InvariantsHoldAtReset : Prop :=
  State.reset.Inv ∧ State.reset.DsuInv
  ∧ ∀ (cfg : Params) (m : Memory) (pins : Pins) (inputs : List (List EnvEvent)) (sent : List DsuMessage) (n : Nat),
    m.wf = true → (State.resetWith cfg m pins inputs sent n).Inv
      ∧ (State.resetWith cfg m pins inputs sent n).DsuInv

/-- Every step keeps OUTPUT_PENDING and HOST_EVENT_ACK_PENDING exclusive, and the TAPLink variant without the latter and
with an 8-bit DSR2 (61 R667, R668). -/
def Obligations.DsuInvariantIsKeptByEveryStep : Prop :=
  ∀ (s t : State), s.DsuInv → step s = .next t → t.DsuInv

/-- The core enters debug mode only by taking a debug interrupt (10 R33; 61 R610, R612). -/
def Obligations.DebugModeOnlyByDebugInterrupt : Prop :=
  ∀ (s t : State), s.psw.getLsbD 12 = false → step s = .next t → t.psw.getLsbD 12 = true →
    s.boundary.dbgPending = true ∧ t = s.boundary.enterDebug

/-- A step that stays in user mode changes no PSW bit, no trap, TLB, SCU, partition or breakpoint register, not ENB or an
EVENT field of PM_CR, and no SDI control or count register (60 R530). With counting off it changes no performance counter;
PM_CR.IDLE it only sets, and only by the idle macro with counting off (61 R690; when idle mode is entered: assumption 28);
and it leaves an SDI port without user access whole (61 R641). Peripheral registers are not kept: only the TLB protects
them (20 R177). -/
def Obligations.UserModeKeepsSystemRegisters : Prop :=
  ∀ (s t : State), s.boundary.psw.getLsbD 0 = true → step s = .next t → t.psw.getLsbD 0 = true →
    t.psw = s.boundary.psw ∧ t.trap = s.boundary.trap ∧ t.mmu = s.boundary.mmu ∧ t.brk = s.boundary.brk
    ∧ t.pm.enb = s.boundary.pm.enb ∧ t.pm.event = s.boundary.pm.event
    ∧ (s.boundary.pm.enb = false → t.pm.cnt = s.boundary.pm.cnt ∧ t.pm.pclk = s.boundary.pm.pclk)
    ∧ (t.pm.idle = s.boundary.pm.idle
      ∨ t.pm.idle = true ∧ s.boundary.pm.enb = false ∧ s.boundary.fetchBundle = .ok [0xB1000000#32])
    ∧ ∀ p, ((s.boundary.sdiPort p).priv ≠ 1#2 → t.sdiPort p = s.boundary.sdiPort p)
        ∧ (t.sdiPort p).priv = (s.boundary.sdiPort p).priv
        ∧ (t.sdiPort p).resetOutput = (s.boundary.sdiPort p).resetOutput
        ∧ (t.sdiPort p).timeoutDisable = (s.boundary.sdiPort p).timeoutDisable
        ∧ (t.sdiPort p).count = (s.boundary.sdiPort p).count

/-- The only ways into user mode are an rfi whose SAVED_PSW has USER_MODE set and a pswset with bit 0 of its operand
set, in a legal bundle (60 R530). -/
def Obligations.UserModeOnlyByRfiOrPswset : Prop :=
  ∀ (s t : State), s.boundary.psw.getLsbD 0 = false → step s = .next t → t.psw.getLsbD 0 = true →
    ∃ ws ops, s.boundary.fetchBundle = .ok ws ∧ decodeBundle s.boundary.pc ws = .ok ops
      ∧ ((.rfi ∈ ops ∧ s.boundary.trap.savedPsw.getLsbD 0 = true)
        ∨ ∃ r, .pswset r ∈ ops ∧ (s.boundary.gpr r).getLsbD 0 = true)

/-- Every operation in every state, and every step, answers a next state: the machine has no stuck state (60 R500;
assumption 31). -/
def Obligations.EveryStepAnswersNext : Prop :=
  (∀ (i : Instr) (s : State), ∃ t, exec i s = .next t) ∧ ∀ (s : State), ∃ t, step s = .next t
end

