-- ==== Sys2Proof/Laws/Memory.lean ====
section
/-! SUPPORT. Memory: what a read after a write answers, and the canonical form that every write keeps. -/

namespace Sys2Proof.Machine

theorem cellsWf_mono {lo lo' : Nat} (h : lo' ≤ lo) : ∀ {cs : List Host.Cell}, cellsWf lo cs = true → cellsWf lo' cs = true
  | [], _ => rfl
  | (k, v) :: rest, hw => by
    simp only [cellsWf, Bool.and_eq_true, decide_eq_true_eq] at hw ⊢
    exact ⟨⟨⟨by omega, hw.1.1.2⟩, hw.1.2⟩, hw.2⟩

/-- An address below a canonical list's first reads as unlisted. -/
theorem cellsRead_below {a : Nat} : ∀ {lo : Nat} {cs : List Host.Cell}, a < lo → cellsWf lo cs = true →
    cellsRead cs a = unlistedByte
  | _, [], _, _ => rfl
  | lo, (k, v) :: rest, ha, hw => by
    simp only [cellsWf, Bool.and_eq_true, decide_eq_true_eq] at hw
    have hk : k ≠ a := by omega
    simp only [cellsRead, hk, if_false]
    exact cellsRead_below (lo := k + 1) (by omega) hw.2

theorem cellsRead_write_same {a : Nat} {b : Byte} : ∀ {lo : Nat} {cs : List Host.Cell}, cellsWf lo cs = true →
    cellsRead (cellsWrite cs a b) a = b
  | _, [], _ => by
    by_cases hb : b = unlistedByte <;> simp [cellsWrite, cellsRead, hb]
  | lo, (k, v) :: rest, hw => by
    simp only [cellsWf, Bool.and_eq_true, decide_eq_true_eq] at hw
    unfold cellsWrite
    by_cases h1 : a < k
    · simp only [h1, if_true]
      by_cases hb : b = unlistedByte
      · have hk : k ≠ a := by omega
        simp only [hb, if_true, cellsRead, hk, if_false]
        exact cellsRead_below (by omega) hw.2
      · simp [hb, cellsRead]
    · simp only [h1, if_false]
      by_cases h2 : a = k
      · subst h2
        simp only [if_true]
        by_cases hb : b = unlistedByte
        · simp only [hb, if_true]
          exact cellsRead_below (Nat.lt_succ_self a) hw.2
        · simp [hb, cellsRead]
      · have hk : k ≠ a := fun h => h2 h.symm
        simp only [h2, if_false, cellsRead, hk]
        exact cellsRead_write_same hw.2

theorem cellsRead_write_other {a a' : Nat} {b : Byte} (h : a' ≠ a) : ∀ {cs : List Host.Cell},
    cellsRead (cellsWrite cs a b) a' = cellsRead cs a'
  | [] => by
    have h' : a ≠ a' := fun e => h e.symm
    by_cases hb : b = unlistedByte <;> simp [cellsWrite, cellsRead, hb, h']
  | (k, v) :: rest => by
    have h' : a ≠ a' := fun e => h e.symm
    unfold cellsWrite
    by_cases h1 : a < k
    · by_cases hb : b = unlistedByte <;> simp [h1, hb, cellsRead, h']
    · by_cases h2 : a = k
      · subst h2
        by_cases hb : b = unlistedByte <;> simp [hb, cellsRead, h']
      · simp only [h1, h2, if_false, cellsRead]
        by_cases hk : k = a'
        · simp [hk]
        · simp only [hk, if_false]; exact cellsRead_write_other h

theorem cellsWf_write {a : Nat} {b : Byte} (ha : a < 2 ^ 32) : ∀ {lo : Nat} {cs : List Host.Cell}, lo ≤ a →
    cellsWf lo cs = true → cellsWf lo (cellsWrite cs a b) = true
  | lo, [], hlo, _ => by
    by_cases hb : b = unlistedByte
    · simp [cellsWrite, hb, cellsWf]
    · simp [cellsWrite, hb, cellsWf, hlo]; omega
  | lo, (k, v) :: rest, hlo, hw => by
    have hw' := hw
    simp only [cellsWf, Bool.and_eq_true, decide_eq_true_eq] at hw
    unfold cellsWrite
    by_cases h1 : a < k
    · by_cases hb : b = unlistedByte
      · simp only [h1, hb, if_true]; exact hw'
      · simp only [h1, hb, if_true, if_false, cellsWf, Bool.and_eq_true, decide_eq_true_eq, bne_iff_ne, ne_eq,
          not_false_eq_true, and_true]
        exact ⟨⟨hlo, ha⟩, ⟨⟨by omega, hw.1.1.2⟩, by simpa using hw.1.2⟩, hw.2⟩
    · by_cases h2 : a = k
      · subst h2
        by_cases hb : b = unlistedByte
        · simp only [lt_irrefl, hb, if_true, if_false]
          exact cellsWf_mono (by omega) hw.2
        · simp only [lt_irrefl, hb, if_true, if_false, cellsWf, Bool.and_eq_true, decide_eq_true_eq, bne_iff_ne,
            ne_eq, not_false_eq_true, and_true]
          exact ⟨⟨hlo, ha⟩, hw.2⟩
      · simp only [h1, h2, if_false, cellsWf, Bool.and_eq_true, decide_eq_true_eq]
        exact ⟨hw.1, cellsWf_write ha (by omega) hw.2⟩

/-- Reading the byte just written. -/
theorem Memory.read_write_same {m : Memory} (h : m.wf = true) (a : Nat) (b : Byte) : (m.write a b).read a = b :=
  cellsRead_write_same h

/-- Writing one byte leaves every other byte as it was. -/
theorem Memory.read_write_other (m : Memory) {a a' : Nat} (h : a' ≠ a) (b : Byte) :
    (m.write a b).read a' = m.read a' := cellsRead_write_other h

/-- A byte write keeps the canonical form. -/
theorem Memory.wf_write {m : Memory} (h : m.wf = true) {a : Nat} (ha : a < 2 ^ 32) (b : Byte) :
    (m.write a b).wf = true := cellsWf_write ha (Nat.zero_le a) h

theorem byteAddr_lt (pa : Word) (k : Nat) : byteAddr pa k < 2 ^ 32 := (pa + BitVec.ofNat 32 k).isLt

/-- A store keeps the canonical form. -/
theorem Memory.wf_store {m : Memory} (h : m.wf = true) (be : Bool) (pa : Word) (w : Width) (v : Word) :
    (m.store be pa w v).wf = true := by
  cases w <;> cases be <;> simp only [Memory.store, if_true, if_false, Bool.false_eq_true] <;>
    repeat' first | exact h | apply Memory.wf_write | exact byteAddr_lt _ _

/-- A store changes only the bytes of its access. -/
theorem Memory.read_store_other (m : Memory) (be : Bool) (pa : Word) (w : Width) (v : Word) {a : Nat}
    (h : ∀ k, k < w.bytes → a ≠ byteAddr pa k) : (m.store be pa w v).read a = m.read a := by
  cases w
  · simp only [Memory.store]; exact Memory.read_write_other _ (h 0 (by decide)) _
  · have h0 := h 0 (by decide); have h1 := h 1 (by decide)
    cases be <;> simp [Memory.store, Memory.read_write_other, h0, h1]
  · have h0 := h 0 (by decide); have h1 := h 1 (by decide)
    have h2 := h 2 (by decide); have h3 := h 3 (by decide)
    cases be <;> simp [Memory.store, Memory.read_write_other, h0, h1, h2, h3]

/-- Nothing listed is canonical. -/
theorem Memory.wf_empty : Memory.wf ⟨[]⟩ = true := rfl

end Sys2Proof.Machine
end

