-- ==== Sys2Proof/Laws/State.lean ====
section
/-! SUPPORT. Which fields each update of the state leaves alone: one lemma per field per update. -/

namespace Sys2Proof.Machine

@[simp] theorem State.setGpr_cfg (s : State) (r : RegNum) (v : Word) : (s.setGpr r v).cfg = s.cfg := by unfold State.setGpr; split <;> rfl
@[simp] theorem State.setGpr_pc (s : State) (r : RegNum) (v : Word) : (s.setGpr r v).pc = s.pc := by unfold State.setGpr; split <;> rfl
@[simp] theorem State.setGpr_branch (s : State) (r : RegNum) (v : Word) : (s.setGpr r v).branch = s.branch := by unfold State.setGpr; split <;> rfl
@[simp] theorem State.setGpr_psw (s : State) (r : RegNum) (v : Word) : (s.setGpr r v).psw = s.psw := by unfold State.setGpr; split <;> rfl
@[simp] theorem State.setGpr_trap (s : State) (r : RegNum) (v : Word) : (s.setGpr r v).trap = s.trap := by unfold State.setGpr; split <;> rfl
@[simp] theorem State.setGpr_mmu (s : State) (r : RegNum) (v : Word) : (s.setGpr r v).mmu = s.mmu := by unfold State.setGpr; split <;> rfl
@[simp] theorem State.setGpr_brk (s : State) (r : RegNum) (v : Word) : (s.setGpr r v).brk = s.brk := by unfold State.setGpr; split <;> rfl
@[simp] theorem State.setGpr_pm (s : State) (r : RegNum) (v : Word) : (s.setGpr r v).pm = s.pm := by unfold State.setGpr; split <;> rfl
@[simp] theorem State.setGpr_sdi (s : State) (r : RegNum) (v : Word) : (s.setGpr r v).sdi = s.sdi := by unfold State.setGpr; split <;> rfl
@[simp] theorem State.setGpr_intc (s : State) (r : RegNum) (v : Word) : (s.setGpr r v).intc = s.intc := by unfold State.setGpr; split <;> rfl
@[simp] theorem State.setGpr_timers (s : State) (r : RegNum) (v : Word) : (s.setGpr r v).timers = s.timers := by unfold State.setGpr; split <;> rfl
@[simp] theorem State.setGpr_dsu (s : State) (r : RegNum) (v : Word) : (s.setGpr r v).dsu = s.dsu := by unfold State.setGpr; split <;> rfl
@[simp] theorem State.setGpr_pins (s : State) (r : RegNum) (v : Word) : (s.setGpr r v).pins = s.pins := by unfold State.setGpr; split <;> rfl
@[simp] theorem State.setGpr_mem (s : State) (r : RegNum) (v : Word) : (s.setGpr r v).mem = s.mem := by unfold State.setGpr; split <;> rfl
@[simp] theorem State.setGpr_dbgPending (s : State) (r : RegNum) (v : Word) : (s.setGpr r v).dbgPending = s.dbgPending := by unfold State.setGpr; split <;> rfl
@[simp] theorem State.setGpr_dcError (s : State) (r : RegNum) (v : Word) : (s.setGpr r v).dcError = s.dcError := by unfold State.setGpr; split <;> rfl
@[simp] theorem State.setGpr_idleMode (s : State) (r : RegNum) (v : Word) : (s.setGpr r v).idleMode = s.idleMode := by unfold State.setGpr; split <;> rfl
@[simp] theorem State.setGpr_inputs (s : State) (r : RegNum) (v : Word) : (s.setGpr r v).inputs = s.inputs := by unfold State.setGpr; split <;> rfl
@[simp] theorem State.setGpr_toHost (s : State) (r : RegNum) (v : Word) : (s.setGpr r v).toHost = s.toHost := by unfold State.setGpr; split <;> rfl
@[simp] theorem State.setGpr_sdiStalled (s : State) (r : RegNum) (v : Word) : (s.setGpr r v).sdiStalled = s.sdiStalled := by unfold State.setGpr; split <;> rfl
@[simp] theorem State.setGpr_bundle (s : State) (r : RegNum) (v : Word) : (s.setGpr r v).bundle = s.bundle := by unfold State.setGpr; split <;> rfl
@[simp] theorem State.setGpr_oracle (s : State) (r : RegNum) (v : Word) : (s.setGpr r v).oracle = s.oracle := by unfold State.setGpr; split <;> rfl

@[simp] theorem State.setBr_cfg (s : State) (b : BrNum) (v : Bool) : (s.setBr b v).cfg = s.cfg := rfl
@[simp] theorem State.setBr_pc (s : State) (b : BrNum) (v : Bool) : (s.setBr b v).pc = s.pc := rfl
@[simp] theorem State.setBr_regs (s : State) (b : BrNum) (v : Bool) : (s.setBr b v).regs = s.regs := rfl
@[simp] theorem State.setBr_psw (s : State) (b : BrNum) (v : Bool) : (s.setBr b v).psw = s.psw := rfl
@[simp] theorem State.setBr_trap (s : State) (b : BrNum) (v : Bool) : (s.setBr b v).trap = s.trap := rfl
@[simp] theorem State.setBr_mmu (s : State) (b : BrNum) (v : Bool) : (s.setBr b v).mmu = s.mmu := rfl
@[simp] theorem State.setBr_brk (s : State) (b : BrNum) (v : Bool) : (s.setBr b v).brk = s.brk := rfl
@[simp] theorem State.setBr_pm (s : State) (b : BrNum) (v : Bool) : (s.setBr b v).pm = s.pm := rfl
@[simp] theorem State.setBr_sdi (s : State) (b : BrNum) (v : Bool) : (s.setBr b v).sdi = s.sdi := rfl
@[simp] theorem State.setBr_intc (s : State) (b : BrNum) (v : Bool) : (s.setBr b v).intc = s.intc := rfl
@[simp] theorem State.setBr_timers (s : State) (b : BrNum) (v : Bool) : (s.setBr b v).timers = s.timers := rfl
@[simp] theorem State.setBr_dsu (s : State) (b : BrNum) (v : Bool) : (s.setBr b v).dsu = s.dsu := rfl
@[simp] theorem State.setBr_pins (s : State) (b : BrNum) (v : Bool) : (s.setBr b v).pins = s.pins := rfl
@[simp] theorem State.setBr_mem (s : State) (b : BrNum) (v : Bool) : (s.setBr b v).mem = s.mem := rfl
@[simp] theorem State.setBr_dbgPending (s : State) (b : BrNum) (v : Bool) : (s.setBr b v).dbgPending = s.dbgPending := rfl
@[simp] theorem State.setBr_dcError (s : State) (b : BrNum) (v : Bool) : (s.setBr b v).dcError = s.dcError := rfl
@[simp] theorem State.setBr_idleMode (s : State) (b : BrNum) (v : Bool) : (s.setBr b v).idleMode = s.idleMode := rfl
@[simp] theorem State.setBr_inputs (s : State) (b : BrNum) (v : Bool) : (s.setBr b v).inputs = s.inputs := rfl
@[simp] theorem State.setBr_toHost (s : State) (b : BrNum) (v : Bool) : (s.setBr b v).toHost = s.toHost := rfl
@[simp] theorem State.setBr_sdiStalled (s : State) (b : BrNum) (v : Bool) : (s.setBr b v).sdiStalled = s.sdiStalled := rfl
@[simp] theorem State.setBr_bundle (s : State) (b : BrNum) (v : Bool) : (s.setBr b v).bundle = s.bundle := rfl
@[simp] theorem State.setBr_oracle (s : State) (b : BrNum) (v : Bool) : (s.setBr b v).oracle = s.oracle := rfl

@[simp] theorem State.setPc_cfg (s : State) (v : Word) : (s.setPc v).cfg = s.cfg := rfl
@[simp] theorem State.setPc_regs (s : State) (v : Word) : (s.setPc v).regs = s.regs := rfl
@[simp] theorem State.setPc_branch (s : State) (v : Word) : (s.setPc v).branch = s.branch := rfl
@[simp] theorem State.setPc_psw (s : State) (v : Word) : (s.setPc v).psw = s.psw := rfl
@[simp] theorem State.setPc_trap (s : State) (v : Word) : (s.setPc v).trap = s.trap := rfl
@[simp] theorem State.setPc_mmu (s : State) (v : Word) : (s.setPc v).mmu = s.mmu := rfl
@[simp] theorem State.setPc_brk (s : State) (v : Word) : (s.setPc v).brk = s.brk := rfl
@[simp] theorem State.setPc_pm (s : State) (v : Word) : (s.setPc v).pm = s.pm := rfl
@[simp] theorem State.setPc_sdi (s : State) (v : Word) : (s.setPc v).sdi = s.sdi := rfl
@[simp] theorem State.setPc_intc (s : State) (v : Word) : (s.setPc v).intc = s.intc := rfl
@[simp] theorem State.setPc_timers (s : State) (v : Word) : (s.setPc v).timers = s.timers := rfl
@[simp] theorem State.setPc_dsu (s : State) (v : Word) : (s.setPc v).dsu = s.dsu := rfl
@[simp] theorem State.setPc_pins (s : State) (v : Word) : (s.setPc v).pins = s.pins := rfl
@[simp] theorem State.setPc_mem (s : State) (v : Word) : (s.setPc v).mem = s.mem := rfl
@[simp] theorem State.setPc_dbgPending (s : State) (v : Word) : (s.setPc v).dbgPending = s.dbgPending := rfl
@[simp] theorem State.setPc_dcError (s : State) (v : Word) : (s.setPc v).dcError = s.dcError := rfl
@[simp] theorem State.setPc_idleMode (s : State) (v : Word) : (s.setPc v).idleMode = s.idleMode := rfl
@[simp] theorem State.setPc_inputs (s : State) (v : Word) : (s.setPc v).inputs = s.inputs := rfl
@[simp] theorem State.setPc_toHost (s : State) (v : Word) : (s.setPc v).toHost = s.toHost := rfl
@[simp] theorem State.setPc_sdiStalled (s : State) (v : Word) : (s.setPc v).sdiStalled = s.sdiStalled := rfl
@[simp] theorem State.setPc_bundle (s : State) (v : Word) : (s.setPc v).bundle = s.bundle := rfl
@[simp] theorem State.setPc_oracle (s : State) (v : Word) : (s.setPc v).oracle = s.oracle := rfl

@[simp] theorem State.setSdiPort_cfg (s : State) (i : Fin 4) (p : SdiPort) : (s.setSdiPort i p).cfg = s.cfg := rfl
@[simp] theorem State.setSdiPort_pc (s : State) (i : Fin 4) (p : SdiPort) : (s.setSdiPort i p).pc = s.pc := rfl
@[simp] theorem State.setSdiPort_regs (s : State) (i : Fin 4) (p : SdiPort) : (s.setSdiPort i p).regs = s.regs := rfl
@[simp] theorem State.setSdiPort_branch (s : State) (i : Fin 4) (p : SdiPort) : (s.setSdiPort i p).branch = s.branch := rfl
@[simp] theorem State.setSdiPort_psw (s : State) (i : Fin 4) (p : SdiPort) : (s.setSdiPort i p).psw = s.psw := rfl
@[simp] theorem State.setSdiPort_trap (s : State) (i : Fin 4) (p : SdiPort) : (s.setSdiPort i p).trap = s.trap := rfl
@[simp] theorem State.setSdiPort_mmu (s : State) (i : Fin 4) (p : SdiPort) : (s.setSdiPort i p).mmu = s.mmu := rfl
@[simp] theorem State.setSdiPort_brk (s : State) (i : Fin 4) (p : SdiPort) : (s.setSdiPort i p).brk = s.brk := rfl
@[simp] theorem State.setSdiPort_pm (s : State) (i : Fin 4) (p : SdiPort) : (s.setSdiPort i p).pm = s.pm := rfl
@[simp] theorem State.setSdiPort_intc (s : State) (i : Fin 4) (p : SdiPort) : (s.setSdiPort i p).intc = s.intc := rfl
@[simp] theorem State.setSdiPort_timers (s : State) (i : Fin 4) (p : SdiPort) : (s.setSdiPort i p).timers = s.timers := rfl
@[simp] theorem State.setSdiPort_dsu (s : State) (i : Fin 4) (p : SdiPort) : (s.setSdiPort i p).dsu = s.dsu := rfl
@[simp] theorem State.setSdiPort_pins (s : State) (i : Fin 4) (p : SdiPort) : (s.setSdiPort i p).pins = s.pins := rfl
@[simp] theorem State.setSdiPort_mem (s : State) (i : Fin 4) (p : SdiPort) : (s.setSdiPort i p).mem = s.mem := rfl
@[simp] theorem State.setSdiPort_dbgPending (s : State) (i : Fin 4) (p : SdiPort) : (s.setSdiPort i p).dbgPending = s.dbgPending := rfl
@[simp] theorem State.setSdiPort_dcError (s : State) (i : Fin 4) (p : SdiPort) : (s.setSdiPort i p).dcError = s.dcError := rfl
@[simp] theorem State.setSdiPort_idleMode (s : State) (i : Fin 4) (p : SdiPort) : (s.setSdiPort i p).idleMode = s.idleMode := rfl
@[simp] theorem State.setSdiPort_inputs (s : State) (i : Fin 4) (p : SdiPort) : (s.setSdiPort i p).inputs = s.inputs := rfl
@[simp] theorem State.setSdiPort_toHost (s : State) (i : Fin 4) (p : SdiPort) : (s.setSdiPort i p).toHost = s.toHost := rfl
@[simp] theorem State.setSdiPort_sdiStalled (s : State) (i : Fin 4) (p : SdiPort) : (s.setSdiPort i p).sdiStalled = s.sdiStalled := rfl
@[simp] theorem State.setSdiPort_bundle (s : State) (i : Fin 4) (p : SdiPort) : (s.setSdiPort i p).bundle = s.bundle := rfl
@[simp] theorem State.setSdiPort_oracle (s : State) (i : Fin 4) (p : SdiPort) : (s.setSdiPort i p).oracle = s.oracle := rfl

@[simp] theorem State.setTimer_cfg (s : State) (i : Fin 3) (t : Timer) : (s.setTimer i t).cfg = s.cfg := rfl
@[simp] theorem State.setTimer_pc (s : State) (i : Fin 3) (t : Timer) : (s.setTimer i t).pc = s.pc := rfl
@[simp] theorem State.setTimer_regs (s : State) (i : Fin 3) (t : Timer) : (s.setTimer i t).regs = s.regs := rfl
@[simp] theorem State.setTimer_branch (s : State) (i : Fin 3) (t : Timer) : (s.setTimer i t).branch = s.branch := rfl
@[simp] theorem State.setTimer_psw (s : State) (i : Fin 3) (t : Timer) : (s.setTimer i t).psw = s.psw := rfl
@[simp] theorem State.setTimer_trap (s : State) (i : Fin 3) (t : Timer) : (s.setTimer i t).trap = s.trap := rfl
@[simp] theorem State.setTimer_mmu (s : State) (i : Fin 3) (t : Timer) : (s.setTimer i t).mmu = s.mmu := rfl
@[simp] theorem State.setTimer_brk (s : State) (i : Fin 3) (t : Timer) : (s.setTimer i t).brk = s.brk := rfl
@[simp] theorem State.setTimer_pm (s : State) (i : Fin 3) (t : Timer) : (s.setTimer i t).pm = s.pm := rfl
@[simp] theorem State.setTimer_sdi (s : State) (i : Fin 3) (t : Timer) : (s.setTimer i t).sdi = s.sdi := rfl
@[simp] theorem State.setTimer_intc (s : State) (i : Fin 3) (t : Timer) : (s.setTimer i t).intc = s.intc := rfl
@[simp] theorem State.setTimer_dsu (s : State) (i : Fin 3) (t : Timer) : (s.setTimer i t).dsu = s.dsu := rfl
@[simp] theorem State.setTimer_pins (s : State) (i : Fin 3) (t : Timer) : (s.setTimer i t).pins = s.pins := rfl
@[simp] theorem State.setTimer_mem (s : State) (i : Fin 3) (t : Timer) : (s.setTimer i t).mem = s.mem := rfl
@[simp] theorem State.setTimer_dbgPending (s : State) (i : Fin 3) (t : Timer) : (s.setTimer i t).dbgPending = s.dbgPending := rfl
@[simp] theorem State.setTimer_dcError (s : State) (i : Fin 3) (t : Timer) : (s.setTimer i t).dcError = s.dcError := rfl
@[simp] theorem State.setTimer_idleMode (s : State) (i : Fin 3) (t : Timer) : (s.setTimer i t).idleMode = s.idleMode := rfl
@[simp] theorem State.setTimer_inputs (s : State) (i : Fin 3) (t : Timer) : (s.setTimer i t).inputs = s.inputs := rfl
@[simp] theorem State.setTimer_toHost (s : State) (i : Fin 3) (t : Timer) : (s.setTimer i t).toHost = s.toHost := rfl
@[simp] theorem State.setTimer_sdiStalled (s : State) (i : Fin 3) (t : Timer) : (s.setTimer i t).sdiStalled = s.sdiStalled := rfl
@[simp] theorem State.setTimer_bundle (s : State) (i : Fin 3) (t : Timer) : (s.setTimer i t).bundle = s.bundle := rfl
@[simp] theorem State.setTimer_oracle (s : State) (i : Fin 3) (t : Timer) : (s.setTimer i t).oracle = s.oracle := rfl

@[simp] theorem State.setIntMask_cfg (s : State) (k : Fin 2) (v : Word) : (s.setIntMask k v).cfg = s.cfg := rfl
@[simp] theorem State.setIntMask_pc (s : State) (k : Fin 2) (v : Word) : (s.setIntMask k v).pc = s.pc := rfl
@[simp] theorem State.setIntMask_regs (s : State) (k : Fin 2) (v : Word) : (s.setIntMask k v).regs = s.regs := rfl
@[simp] theorem State.setIntMask_branch (s : State) (k : Fin 2) (v : Word) : (s.setIntMask k v).branch = s.branch := rfl
@[simp] theorem State.setIntMask_psw (s : State) (k : Fin 2) (v : Word) : (s.setIntMask k v).psw = s.psw := rfl
@[simp] theorem State.setIntMask_trap (s : State) (k : Fin 2) (v : Word) : (s.setIntMask k v).trap = s.trap := rfl
@[simp] theorem State.setIntMask_mmu (s : State) (k : Fin 2) (v : Word) : (s.setIntMask k v).mmu = s.mmu := rfl
@[simp] theorem State.setIntMask_brk (s : State) (k : Fin 2) (v : Word) : (s.setIntMask k v).brk = s.brk := rfl
@[simp] theorem State.setIntMask_pm (s : State) (k : Fin 2) (v : Word) : (s.setIntMask k v).pm = s.pm := rfl
@[simp] theorem State.setIntMask_sdi (s : State) (k : Fin 2) (v : Word) : (s.setIntMask k v).sdi = s.sdi := rfl
@[simp] theorem State.setIntMask_timers (s : State) (k : Fin 2) (v : Word) : (s.setIntMask k v).timers = s.timers := rfl
@[simp] theorem State.setIntMask_dsu (s : State) (k : Fin 2) (v : Word) : (s.setIntMask k v).dsu = s.dsu := rfl
@[simp] theorem State.setIntMask_pins (s : State) (k : Fin 2) (v : Word) : (s.setIntMask k v).pins = s.pins := rfl
@[simp] theorem State.setIntMask_mem (s : State) (k : Fin 2) (v : Word) : (s.setIntMask k v).mem = s.mem := rfl
@[simp] theorem State.setIntMask_dbgPending (s : State) (k : Fin 2) (v : Word) : (s.setIntMask k v).dbgPending = s.dbgPending := rfl
@[simp] theorem State.setIntMask_dcError (s : State) (k : Fin 2) (v : Word) : (s.setIntMask k v).dcError = s.dcError := rfl
@[simp] theorem State.setIntMask_idleMode (s : State) (k : Fin 2) (v : Word) : (s.setIntMask k v).idleMode = s.idleMode := rfl
@[simp] theorem State.setIntMask_inputs (s : State) (k : Fin 2) (v : Word) : (s.setIntMask k v).inputs = s.inputs := rfl
@[simp] theorem State.setIntMask_toHost (s : State) (k : Fin 2) (v : Word) : (s.setIntMask k v).toHost = s.toHost := rfl
@[simp] theorem State.setIntMask_sdiStalled (s : State) (k : Fin 2) (v : Word) : (s.setIntMask k v).sdiStalled = s.sdiStalled := rfl
@[simp] theorem State.setIntMask_bundle (s : State) (k : Fin 2) (v : Word) : (s.setIntMask k v).bundle = s.bundle := rfl
@[simp] theorem State.setIntMask_oracle (s : State) (k : Fin 2) (v : Word) : (s.setIntMask k v).oracle = s.oracle := rfl

@[simp] theorem State.setIntTest_cfg (s : State) (k : Fin 2) (v : Word) : (s.setIntTest k v).cfg = s.cfg := rfl
@[simp] theorem State.setIntTest_pc (s : State) (k : Fin 2) (v : Word) : (s.setIntTest k v).pc = s.pc := rfl
@[simp] theorem State.setIntTest_regs (s : State) (k : Fin 2) (v : Word) : (s.setIntTest k v).regs = s.regs := rfl
@[simp] theorem State.setIntTest_branch (s : State) (k : Fin 2) (v : Word) : (s.setIntTest k v).branch = s.branch := rfl
@[simp] theorem State.setIntTest_psw (s : State) (k : Fin 2) (v : Word) : (s.setIntTest k v).psw = s.psw := rfl
@[simp] theorem State.setIntTest_trap (s : State) (k : Fin 2) (v : Word) : (s.setIntTest k v).trap = s.trap := rfl
@[simp] theorem State.setIntTest_mmu (s : State) (k : Fin 2) (v : Word) : (s.setIntTest k v).mmu = s.mmu := rfl
@[simp] theorem State.setIntTest_brk (s : State) (k : Fin 2) (v : Word) : (s.setIntTest k v).brk = s.brk := rfl
@[simp] theorem State.setIntTest_pm (s : State) (k : Fin 2) (v : Word) : (s.setIntTest k v).pm = s.pm := rfl
@[simp] theorem State.setIntTest_sdi (s : State) (k : Fin 2) (v : Word) : (s.setIntTest k v).sdi = s.sdi := rfl
@[simp] theorem State.setIntTest_timers (s : State) (k : Fin 2) (v : Word) : (s.setIntTest k v).timers = s.timers := rfl
@[simp] theorem State.setIntTest_dsu (s : State) (k : Fin 2) (v : Word) : (s.setIntTest k v).dsu = s.dsu := rfl
@[simp] theorem State.setIntTest_pins (s : State) (k : Fin 2) (v : Word) : (s.setIntTest k v).pins = s.pins := rfl
@[simp] theorem State.setIntTest_mem (s : State) (k : Fin 2) (v : Word) : (s.setIntTest k v).mem = s.mem := rfl
@[simp] theorem State.setIntTest_dbgPending (s : State) (k : Fin 2) (v : Word) : (s.setIntTest k v).dbgPending = s.dbgPending := rfl
@[simp] theorem State.setIntTest_dcError (s : State) (k : Fin 2) (v : Word) : (s.setIntTest k v).dcError = s.dcError := rfl
@[simp] theorem State.setIntTest_idleMode (s : State) (k : Fin 2) (v : Word) : (s.setIntTest k v).idleMode = s.idleMode := rfl
@[simp] theorem State.setIntTest_inputs (s : State) (k : Fin 2) (v : Word) : (s.setIntTest k v).inputs = s.inputs := rfl
@[simp] theorem State.setIntTest_toHost (s : State) (k : Fin 2) (v : Word) : (s.setIntTest k v).toHost = s.toHost := rfl
@[simp] theorem State.setIntTest_sdiStalled (s : State) (k : Fin 2) (v : Word) : (s.setIntTest k v).sdiStalled = s.sdiStalled := rfl
@[simp] theorem State.setIntTest_bundle (s : State) (k : Fin 2) (v : Word) : (s.setIntTest k v).bundle = s.bundle := rfl
@[simp] theorem State.setIntTest_oracle (s : State) (k : Fin 2) (v : Word) : (s.setIntTest k v).oracle = s.oracle := rfl

@[simp] theorem State.setSelectedEntry_cfg (s : State) (e : UtlbEntry) : (s.setSelectedEntry e).cfg = s.cfg := rfl
@[simp] theorem State.setSelectedEntry_pc (s : State) (e : UtlbEntry) : (s.setSelectedEntry e).pc = s.pc := rfl
@[simp] theorem State.setSelectedEntry_regs (s : State) (e : UtlbEntry) : (s.setSelectedEntry e).regs = s.regs := rfl
@[simp] theorem State.setSelectedEntry_branch (s : State) (e : UtlbEntry) : (s.setSelectedEntry e).branch = s.branch := rfl
@[simp] theorem State.setSelectedEntry_psw (s : State) (e : UtlbEntry) : (s.setSelectedEntry e).psw = s.psw := rfl
@[simp] theorem State.setSelectedEntry_trap (s : State) (e : UtlbEntry) : (s.setSelectedEntry e).trap = s.trap := rfl
@[simp] theorem State.setSelectedEntry_brk (s : State) (e : UtlbEntry) : (s.setSelectedEntry e).brk = s.brk := rfl
@[simp] theorem State.setSelectedEntry_pm (s : State) (e : UtlbEntry) : (s.setSelectedEntry e).pm = s.pm := rfl
@[simp] theorem State.setSelectedEntry_sdi (s : State) (e : UtlbEntry) : (s.setSelectedEntry e).sdi = s.sdi := rfl
@[simp] theorem State.setSelectedEntry_intc (s : State) (e : UtlbEntry) : (s.setSelectedEntry e).intc = s.intc := rfl
@[simp] theorem State.setSelectedEntry_timers (s : State) (e : UtlbEntry) : (s.setSelectedEntry e).timers = s.timers := rfl
@[simp] theorem State.setSelectedEntry_dsu (s : State) (e : UtlbEntry) : (s.setSelectedEntry e).dsu = s.dsu := rfl
@[simp] theorem State.setSelectedEntry_pins (s : State) (e : UtlbEntry) : (s.setSelectedEntry e).pins = s.pins := rfl
@[simp] theorem State.setSelectedEntry_mem (s : State) (e : UtlbEntry) : (s.setSelectedEntry e).mem = s.mem := rfl
@[simp] theorem State.setSelectedEntry_dbgPending (s : State) (e : UtlbEntry) : (s.setSelectedEntry e).dbgPending = s.dbgPending := rfl
@[simp] theorem State.setSelectedEntry_dcError (s : State) (e : UtlbEntry) : (s.setSelectedEntry e).dcError = s.dcError := rfl
@[simp] theorem State.setSelectedEntry_idleMode (s : State) (e : UtlbEntry) : (s.setSelectedEntry e).idleMode = s.idleMode := rfl
@[simp] theorem State.setSelectedEntry_inputs (s : State) (e : UtlbEntry) : (s.setSelectedEntry e).inputs = s.inputs := rfl
@[simp] theorem State.setSelectedEntry_toHost (s : State) (e : UtlbEntry) : (s.setSelectedEntry e).toHost = s.toHost := rfl
@[simp] theorem State.setSelectedEntry_sdiStalled (s : State) (e : UtlbEntry) : (s.setSelectedEntry e).sdiStalled = s.sdiStalled := rfl
@[simp] theorem State.setSelectedEntry_bundle (s : State) (e : UtlbEntry) : (s.setSelectedEntry e).bundle = s.bundle := rfl
@[simp] theorem State.setSelectedEntry_oracle (s : State) (e : UtlbEntry) : (s.setSelectedEntry e).oracle = s.oracle := rfl

@[simp] theorem State.clockLfsr_cfg (s : State) : s.clockLfsr.cfg = s.cfg := rfl
@[simp] theorem State.clockLfsr_pc (s : State) : s.clockLfsr.pc = s.pc := rfl
@[simp] theorem State.clockLfsr_regs (s : State) : s.clockLfsr.regs = s.regs := rfl
@[simp] theorem State.clockLfsr_branch (s : State) : s.clockLfsr.branch = s.branch := rfl
@[simp] theorem State.clockLfsr_psw (s : State) : s.clockLfsr.psw = s.psw := rfl
@[simp] theorem State.clockLfsr_trap (s : State) : s.clockLfsr.trap = s.trap := rfl
@[simp] theorem State.clockLfsr_brk (s : State) : s.clockLfsr.brk = s.brk := rfl
@[simp] theorem State.clockLfsr_pm (s : State) : s.clockLfsr.pm = s.pm := rfl
@[simp] theorem State.clockLfsr_sdi (s : State) : s.clockLfsr.sdi = s.sdi := rfl
@[simp] theorem State.clockLfsr_intc (s : State) : s.clockLfsr.intc = s.intc := rfl
@[simp] theorem State.clockLfsr_timers (s : State) : s.clockLfsr.timers = s.timers := rfl
@[simp] theorem State.clockLfsr_dsu (s : State) : s.clockLfsr.dsu = s.dsu := rfl
@[simp] theorem State.clockLfsr_pins (s : State) : s.clockLfsr.pins = s.pins := rfl
@[simp] theorem State.clockLfsr_mem (s : State) : s.clockLfsr.mem = s.mem := rfl
@[simp] theorem State.clockLfsr_dbgPending (s : State) : s.clockLfsr.dbgPending = s.dbgPending := rfl
@[simp] theorem State.clockLfsr_dcError (s : State) : s.clockLfsr.dcError = s.dcError := rfl
@[simp] theorem State.clockLfsr_idleMode (s : State) : s.clockLfsr.idleMode = s.idleMode := rfl
@[simp] theorem State.clockLfsr_inputs (s : State) : s.clockLfsr.inputs = s.inputs := rfl
@[simp] theorem State.clockLfsr_toHost (s : State) : s.clockLfsr.toHost = s.toHost := rfl
@[simp] theorem State.clockLfsr_sdiStalled (s : State) : s.clockLfsr.sdiStalled = s.sdiStalled := rfl
@[simp] theorem State.clockLfsr_bundle (s : State) : s.clockLfsr.bundle = s.bundle := rfl
@[simp] theorem State.clockLfsr_oracle (s : State) : s.clockLfsr.oracle = s.oracle := rfl

@[simp] theorem State.returnFromException_cfg (s : State) : s.returnFromException.cfg = s.cfg := rfl
@[simp] theorem State.returnFromException_regs (s : State) : s.returnFromException.regs = s.regs := rfl
@[simp] theorem State.returnFromException_branch (s : State) : s.returnFromException.branch = s.branch := rfl
@[simp] theorem State.returnFromException_mmu (s : State) : s.returnFromException.mmu = s.mmu := rfl
@[simp] theorem State.returnFromException_brk (s : State) : s.returnFromException.brk = s.brk := rfl
@[simp] theorem State.returnFromException_pm (s : State) : s.returnFromException.pm = s.pm := rfl
@[simp] theorem State.returnFromException_sdi (s : State) : s.returnFromException.sdi = s.sdi := rfl
@[simp] theorem State.returnFromException_intc (s : State) : s.returnFromException.intc = s.intc := rfl
@[simp] theorem State.returnFromException_timers (s : State) : s.returnFromException.timers = s.timers := rfl
@[simp] theorem State.returnFromException_dsu (s : State) : s.returnFromException.dsu = s.dsu := rfl
@[simp] theorem State.returnFromException_pins (s : State) : s.returnFromException.pins = s.pins := rfl
@[simp] theorem State.returnFromException_mem (s : State) : s.returnFromException.mem = s.mem := rfl
@[simp] theorem State.returnFromException_dbgPending (s : State) : s.returnFromException.dbgPending = s.dbgPending := rfl
@[simp] theorem State.returnFromException_dcError (s : State) : s.returnFromException.dcError = s.dcError := rfl
@[simp] theorem State.returnFromException_idleMode (s : State) : s.returnFromException.idleMode = s.idleMode := rfl
@[simp] theorem State.returnFromException_inputs (s : State) : s.returnFromException.inputs = s.inputs := rfl
@[simp] theorem State.returnFromException_toHost (s : State) : s.returnFromException.toHost = s.toHost := rfl
@[simp] theorem State.returnFromException_sdiStalled (s : State) : s.returnFromException.sdiStalled = s.sdiStalled := rfl
@[simp] theorem State.returnFromException_bundle (s : State) : s.returnFromException.bundle = s.bundle := rfl
@[simp] theorem State.returnFromException_oracle (s : State) : s.returnFromException.oracle = s.oracle := rfl

@[simp] theorem State.tick_cfg (s : State) (u : PmTally) (c : Bool) : (s.tick u c).cfg = s.cfg := rfl
@[simp] theorem State.tick_pc (s : State) (u : PmTally) (c : Bool) : (s.tick u c).pc = s.pc := rfl
@[simp] theorem State.tick_regs (s : State) (u : PmTally) (c : Bool) : (s.tick u c).regs = s.regs := rfl
@[simp] theorem State.tick_branch (s : State) (u : PmTally) (c : Bool) : (s.tick u c).branch = s.branch := rfl
@[simp] theorem State.tick_psw (s : State) (u : PmTally) (c : Bool) : (s.tick u c).psw = s.psw := rfl
@[simp] theorem State.tick_trap (s : State) (u : PmTally) (c : Bool) : (s.tick u c).trap = s.trap := rfl
@[simp] theorem State.tick_mmu (s : State) (u : PmTally) (c : Bool) : (s.tick u c).mmu = s.mmu := rfl
@[simp] theorem State.tick_brk (s : State) (u : PmTally) (c : Bool) : (s.tick u c).brk = s.brk := rfl
@[simp] theorem State.tick_sdi (s : State) (u : PmTally) (c : Bool) : (s.tick u c).sdi = s.sdi := rfl
@[simp] theorem State.tick_intc (s : State) (u : PmTally) (c : Bool) : (s.tick u c).intc = s.intc := rfl
@[simp] theorem State.tick_timers (s : State) (u : PmTally) (c : Bool) : (s.tick u c).timers = s.timers := rfl
@[simp] theorem State.tick_dsu (s : State) (u : PmTally) (c : Bool) : (s.tick u c).dsu = s.dsu := rfl
@[simp] theorem State.tick_pins (s : State) (u : PmTally) (c : Bool) : (s.tick u c).pins = s.pins := rfl
@[simp] theorem State.tick_mem (s : State) (u : PmTally) (c : Bool) : (s.tick u c).mem = s.mem := rfl
@[simp] theorem State.tick_dbgPending (s : State) (u : PmTally) (c : Bool) : (s.tick u c).dbgPending = s.dbgPending := rfl
@[simp] theorem State.tick_dcError (s : State) (u : PmTally) (c : Bool) : (s.tick u c).dcError = s.dcError := rfl
@[simp] theorem State.tick_idleMode (s : State) (u : PmTally) (c : Bool) : (s.tick u c).idleMode = s.idleMode := rfl
@[simp] theorem State.tick_inputs (s : State) (u : PmTally) (c : Bool) : (s.tick u c).inputs = s.inputs := rfl
@[simp] theorem State.tick_toHost (s : State) (u : PmTally) (c : Bool) : (s.tick u c).toHost = s.toHost := rfl
@[simp] theorem State.tick_sdiStalled (s : State) (u : PmTally) (c : Bool) : (s.tick u c).sdiStalled = s.sdiStalled := rfl
@[simp] theorem State.tick_bundle (s : State) (u : PmTally) (c : Bool) : (s.tick u c).bundle = s.bundle := rfl

@[simp] theorem State.advance_cfg (s : State) (es : List Effect) : (s.advance es).cfg = s.cfg := rfl
@[simp] theorem State.advance_regs (s : State) (es : List Effect) : (s.advance es).regs = s.regs := rfl
@[simp] theorem State.advance_branch (s : State) (es : List Effect) : (s.advance es).branch = s.branch := rfl
@[simp] theorem State.advance_psw (s : State) (es : List Effect) : (s.advance es).psw = s.psw := rfl
@[simp] theorem State.advance_trap (s : State) (es : List Effect) : (s.advance es).trap = s.trap := rfl
@[simp] theorem State.advance_mmu (s : State) (es : List Effect) : (s.advance es).mmu = s.mmu := rfl
@[simp] theorem State.advance_brk (s : State) (es : List Effect) : (s.advance es).brk = s.brk := rfl
@[simp] theorem State.advance_sdi (s : State) (es : List Effect) : (s.advance es).sdi = s.sdi := rfl
@[simp] theorem State.advance_intc (s : State) (es : List Effect) : (s.advance es).intc = s.intc := rfl
@[simp] theorem State.advance_timers (s : State) (es : List Effect) : (s.advance es).timers = s.timers := rfl
@[simp] theorem State.advance_dsu (s : State) (es : List Effect) : (s.advance es).dsu = s.dsu := rfl
@[simp] theorem State.advance_pins (s : State) (es : List Effect) : (s.advance es).pins = s.pins := rfl
@[simp] theorem State.advance_mem (s : State) (es : List Effect) : (s.advance es).mem = s.mem := rfl
@[simp] theorem State.advance_dbgPending (s : State) (es : List Effect) : (s.advance es).dbgPending = s.dbgPending := rfl
@[simp] theorem State.advance_dcError (s : State) (es : List Effect) : (s.advance es).dcError = s.dcError := rfl
@[simp] theorem State.advance_inputs (s : State) (es : List Effect) : (s.advance es).inputs = s.inputs := rfl
@[simp] theorem State.advance_toHost (s : State) (es : List Effect) : (s.advance es).toHost = s.toHost := rfl

@[simp] theorem State.takeException_cfg (s : State) (r : Raised) : (s.takeException r).cfg = s.cfg := rfl
@[simp] theorem State.takeException_regs (s : State) (r : Raised) : (s.takeException r).regs = s.regs := rfl
@[simp] theorem State.takeException_branch (s : State) (r : Raised) : (s.takeException r).branch = s.branch := rfl
@[simp] theorem State.takeException_brk (s : State) (r : Raised) : (s.takeException r).brk = s.brk := rfl
@[simp] theorem State.takeException_sdi (s : State) (r : Raised) : (s.takeException r).sdi = s.sdi := rfl
@[simp] theorem State.takeException_intc (s : State) (r : Raised) : (s.takeException r).intc = s.intc := rfl
@[simp] theorem State.takeException_timers (s : State) (r : Raised) : (s.takeException r).timers = s.timers := rfl
@[simp] theorem State.takeException_dsu (s : State) (r : Raised) : (s.takeException r).dsu = s.dsu := rfl
@[simp] theorem State.takeException_pins (s : State) (r : Raised) : (s.takeException r).pins = s.pins := rfl
@[simp] theorem State.takeException_mem (s : State) (r : Raised) : (s.takeException r).mem = s.mem := rfl
@[simp] theorem State.takeException_dbgPending (s : State) (r : Raised) : (s.takeException r).dbgPending = s.dbgPending := rfl
@[simp] theorem State.takeException_inputs (s : State) (r : Raised) : (s.takeException r).inputs = s.inputs := rfl
@[simp] theorem State.takeException_toHost (s : State) (r : Raised) : (s.takeException r).toHost = s.toHost := rfl

@[simp] theorem State.enterDebug_cfg (s : State) : s.enterDebug.cfg = s.cfg := by unfold State.enterDebug; rfl
@[simp] theorem State.enterDebug_regs (s : State) : s.enterDebug.regs = s.regs := by unfold State.enterDebug; rfl
@[simp] theorem State.enterDebug_branch (s : State) : s.enterDebug.branch = s.branch := by unfold State.enterDebug; rfl
@[simp] theorem State.enterDebug_mmu (s : State) : s.enterDebug.mmu = s.mmu := by unfold State.enterDebug; rfl
@[simp] theorem State.enterDebug_brk (s : State) : s.enterDebug.brk = s.brk := by unfold State.enterDebug; rfl
@[simp] theorem State.enterDebug_sdi (s : State) : s.enterDebug.sdi = s.sdi := by unfold State.enterDebug; rfl
@[simp] theorem State.enterDebug_intc (s : State) : s.enterDebug.intc = s.intc := by unfold State.enterDebug; rfl
@[simp] theorem State.enterDebug_timers (s : State) : s.enterDebug.timers = s.timers := by unfold State.enterDebug; rfl
@[simp] theorem State.enterDebug_dsu (s : State) : s.enterDebug.dsu = s.dsu := by unfold State.enterDebug; rfl
@[simp] theorem State.enterDebug_pins (s : State) : s.enterDebug.pins = s.pins := by unfold State.enterDebug; rfl
@[simp] theorem State.enterDebug_mem (s : State) : s.enterDebug.mem = s.mem := by unfold State.enterDebug; rfl
@[simp] theorem State.enterDebug_dcError (s : State) : s.enterDebug.dcError = s.dcError := by unfold State.enterDebug; rfl
@[simp] theorem State.enterDebug_inputs (s : State) : s.enterDebug.inputs = s.inputs := by unfold State.enterDebug; rfl
@[simp] theorem State.enterDebug_toHost (s : State) : s.enterDebug.toHost = s.toHost := by unfold State.enterDebug; rfl

@[simp] theorem State.openBundle_cfg (s : State) (n : Nat) : (s.openBundle n).cfg = s.cfg := rfl
@[simp] theorem State.openBundle_pc (s : State) (n : Nat) : (s.openBundle n).pc = s.pc := rfl
@[simp] theorem State.openBundle_regs (s : State) (n : Nat) : (s.openBundle n).regs = s.regs := rfl
@[simp] theorem State.openBundle_branch (s : State) (n : Nat) : (s.openBundle n).branch = s.branch := rfl
@[simp] theorem State.openBundle_psw (s : State) (n : Nat) : (s.openBundle n).psw = s.psw := rfl
@[simp] theorem State.openBundle_trap (s : State) (n : Nat) : (s.openBundle n).trap = s.trap := rfl
@[simp] theorem State.openBundle_mmu (s : State) (n : Nat) : (s.openBundle n).mmu = s.mmu := rfl
@[simp] theorem State.openBundle_brk (s : State) (n : Nat) : (s.openBundle n).brk = s.brk := rfl
@[simp] theorem State.openBundle_pm (s : State) (n : Nat) : (s.openBundle n).pm = s.pm := rfl
@[simp] theorem State.openBundle_sdi (s : State) (n : Nat) : (s.openBundle n).sdi = s.sdi := rfl
@[simp] theorem State.openBundle_intc (s : State) (n : Nat) : (s.openBundle n).intc = s.intc := rfl
@[simp] theorem State.openBundle_timers (s : State) (n : Nat) : (s.openBundle n).timers = s.timers := rfl
@[simp] theorem State.openBundle_dsu (s : State) (n : Nat) : (s.openBundle n).dsu = s.dsu := rfl
@[simp] theorem State.openBundle_pins (s : State) (n : Nat) : (s.openBundle n).pins = s.pins := rfl
@[simp] theorem State.openBundle_mem (s : State) (n : Nat) : (s.openBundle n).mem = s.mem := rfl
@[simp] theorem State.openBundle_dbgPending (s : State) (n : Nat) : (s.openBundle n).dbgPending = s.dbgPending := rfl
@[simp] theorem State.openBundle_dcError (s : State) (n : Nat) : (s.openBundle n).dcError = s.dcError := rfl
@[simp] theorem State.openBundle_idleMode (s : State) (n : Nat) : (s.openBundle n).idleMode = s.idleMode := rfl
@[simp] theorem State.openBundle_inputs (s : State) (n : Nat) : (s.openBundle n).inputs = s.inputs := rfl
@[simp] theorem State.openBundle_toHost (s : State) (n : Nat) : (s.openBundle n).toHost = s.toHost := rfl
@[simp] theorem State.openBundle_sdiStalled (s : State) (n : Nat) : (s.openBundle n).sdiStalled = s.sdiStalled := rfl
@[simp] theorem State.openBundle_oracle (s : State) (n : Nat) : (s.openBundle n).oracle = s.oracle := rfl

@[simp] theorem State.attach_cfg (s : State) (e : Option (BitVec 23)) : (s.attach e).cfg = s.cfg := rfl
@[simp] theorem State.attach_pc (s : State) (e : Option (BitVec 23)) : (s.attach e).pc = s.pc := rfl
@[simp] theorem State.attach_regs (s : State) (e : Option (BitVec 23)) : (s.attach e).regs = s.regs := rfl
@[simp] theorem State.attach_branch (s : State) (e : Option (BitVec 23)) : (s.attach e).branch = s.branch := rfl
@[simp] theorem State.attach_psw (s : State) (e : Option (BitVec 23)) : (s.attach e).psw = s.psw := rfl
@[simp] theorem State.attach_trap (s : State) (e : Option (BitVec 23)) : (s.attach e).trap = s.trap := rfl
@[simp] theorem State.attach_mmu (s : State) (e : Option (BitVec 23)) : (s.attach e).mmu = s.mmu := rfl
@[simp] theorem State.attach_brk (s : State) (e : Option (BitVec 23)) : (s.attach e).brk = s.brk := rfl
@[simp] theorem State.attach_pm (s : State) (e : Option (BitVec 23)) : (s.attach e).pm = s.pm := rfl
@[simp] theorem State.attach_sdi (s : State) (e : Option (BitVec 23)) : (s.attach e).sdi = s.sdi := rfl
@[simp] theorem State.attach_intc (s : State) (e : Option (BitVec 23)) : (s.attach e).intc = s.intc := rfl
@[simp] theorem State.attach_timers (s : State) (e : Option (BitVec 23)) : (s.attach e).timers = s.timers := rfl
@[simp] theorem State.attach_dsu (s : State) (e : Option (BitVec 23)) : (s.attach e).dsu = s.dsu := rfl
@[simp] theorem State.attach_pins (s : State) (e : Option (BitVec 23)) : (s.attach e).pins = s.pins := rfl
@[simp] theorem State.attach_mem (s : State) (e : Option (BitVec 23)) : (s.attach e).mem = s.mem := rfl
@[simp] theorem State.attach_dbgPending (s : State) (e : Option (BitVec 23)) : (s.attach e).dbgPending = s.dbgPending := rfl
@[simp] theorem State.attach_dcError (s : State) (e : Option (BitVec 23)) : (s.attach e).dcError = s.dcError := rfl
@[simp] theorem State.attach_idleMode (s : State) (e : Option (BitVec 23)) : (s.attach e).idleMode = s.idleMode := rfl
@[simp] theorem State.attach_inputs (s : State) (e : Option (BitVec 23)) : (s.attach e).inputs = s.inputs := rfl
@[simp] theorem State.attach_toHost (s : State) (e : Option (BitVec 23)) : (s.attach e).toHost = s.toHost := rfl
@[simp] theorem State.attach_sdiStalled (s : State) (e : Option (BitVec 23)) : (s.attach e).sdiStalled = s.sdiStalled := rfl
@[simp] theorem State.attach_oracle (s : State) (e : Option (BitVec 23)) : (s.attach e).oracle = s.oracle := rfl

@[simp] theorem State.sampleTrigger_cfg (s : State) : s.sampleTrigger.cfg = s.cfg := rfl
@[simp] theorem State.sampleTrigger_pc (s : State) : s.sampleTrigger.pc = s.pc := rfl
@[simp] theorem State.sampleTrigger_regs (s : State) : s.sampleTrigger.regs = s.regs := rfl
@[simp] theorem State.sampleTrigger_branch (s : State) : s.sampleTrigger.branch = s.branch := rfl
@[simp] theorem State.sampleTrigger_psw (s : State) : s.sampleTrigger.psw = s.psw := rfl
@[simp] theorem State.sampleTrigger_trap (s : State) : s.sampleTrigger.trap = s.trap := rfl
@[simp] theorem State.sampleTrigger_mmu (s : State) : s.sampleTrigger.mmu = s.mmu := rfl
@[simp] theorem State.sampleTrigger_brk (s : State) : s.sampleTrigger.brk = s.brk := rfl
@[simp] theorem State.sampleTrigger_pm (s : State) : s.sampleTrigger.pm = s.pm := rfl
@[simp] theorem State.sampleTrigger_sdi (s : State) : s.sampleTrigger.sdi = s.sdi := rfl
@[simp] theorem State.sampleTrigger_intc (s : State) : s.sampleTrigger.intc = s.intc := rfl
@[simp] theorem State.sampleTrigger_timers (s : State) : s.sampleTrigger.timers = s.timers := rfl
@[simp] theorem State.sampleTrigger_dsu (s : State) : s.sampleTrigger.dsu = s.dsu := rfl
@[simp] theorem State.sampleTrigger_pins (s : State) : s.sampleTrigger.pins = s.pins := rfl
@[simp] theorem State.sampleTrigger_mem (s : State) : s.sampleTrigger.mem = s.mem := rfl
@[simp] theorem State.sampleTrigger_dcError (s : State) : s.sampleTrigger.dcError = s.dcError := rfl
@[simp] theorem State.sampleTrigger_idleMode (s : State) : s.sampleTrigger.idleMode = s.idleMode := rfl
@[simp] theorem State.sampleTrigger_inputs (s : State) : s.sampleTrigger.inputs = s.inputs := rfl
@[simp] theorem State.sampleTrigger_toHost (s : State) : s.sampleTrigger.toHost = s.toHost := rfl
@[simp] theorem State.sampleTrigger_sdiStalled (s : State) : s.sampleTrigger.sdiStalled = s.sdiStalled := rfl
@[simp] theorem State.sampleTrigger_bundle (s : State) : s.sampleTrigger.bundle = s.bundle := rfl
@[simp] theorem State.sampleTrigger_oracle (s : State) : s.sampleTrigger.oracle = s.oracle := rfl

@[simp] theorem State.ageBusError_cfg (s : State) : s.ageBusError.cfg = s.cfg := rfl
@[simp] theorem State.ageBusError_pc (s : State) : s.ageBusError.pc = s.pc := rfl
@[simp] theorem State.ageBusError_regs (s : State) : s.ageBusError.regs = s.regs := rfl
@[simp] theorem State.ageBusError_branch (s : State) : s.ageBusError.branch = s.branch := rfl
@[simp] theorem State.ageBusError_psw (s : State) : s.ageBusError.psw = s.psw := rfl
@[simp] theorem State.ageBusError_trap (s : State) : s.ageBusError.trap = s.trap := rfl
@[simp] theorem State.ageBusError_mmu (s : State) : s.ageBusError.mmu = s.mmu := rfl
@[simp] theorem State.ageBusError_brk (s : State) : s.ageBusError.brk = s.brk := rfl
@[simp] theorem State.ageBusError_pm (s : State) : s.ageBusError.pm = s.pm := rfl
@[simp] theorem State.ageBusError_sdi (s : State) : s.ageBusError.sdi = s.sdi := rfl
@[simp] theorem State.ageBusError_intc (s : State) : s.ageBusError.intc = s.intc := rfl
@[simp] theorem State.ageBusError_timers (s : State) : s.ageBusError.timers = s.timers := rfl
@[simp] theorem State.ageBusError_dsu (s : State) : s.ageBusError.dsu = s.dsu := rfl
@[simp] theorem State.ageBusError_pins (s : State) : s.ageBusError.pins = s.pins := rfl
@[simp] theorem State.ageBusError_mem (s : State) : s.ageBusError.mem = s.mem := rfl
@[simp] theorem State.ageBusError_dbgPending (s : State) : s.ageBusError.dbgPending = s.dbgPending := rfl
@[simp] theorem State.ageBusError_idleMode (s : State) : s.ageBusError.idleMode = s.idleMode := rfl
@[simp] theorem State.ageBusError_inputs (s : State) : s.ageBusError.inputs = s.inputs := rfl
@[simp] theorem State.ageBusError_toHost (s : State) : s.ageBusError.toHost = s.toHost := rfl
@[simp] theorem State.ageBusError_sdiStalled (s : State) : s.ageBusError.sdiStalled = s.sdiStalled := rfl
@[simp] theorem State.ageBusError_bundle (s : State) : s.ageBusError.bundle = s.bundle := rfl
@[simp] theorem State.ageBusError_oracle (s : State) : s.ageBusError.oracle = s.oracle := rfl

@[simp] theorem State.postBusError_cfg (s : State) : s.postBusError.cfg = s.cfg := by unfold State.postBusError; split <;> rfl
@[simp] theorem State.postBusError_pc (s : State) : s.postBusError.pc = s.pc := by unfold State.postBusError; split <;> rfl
@[simp] theorem State.postBusError_regs (s : State) : s.postBusError.regs = s.regs := by unfold State.postBusError; split <;> rfl
@[simp] theorem State.postBusError_branch (s : State) : s.postBusError.branch = s.branch := by unfold State.postBusError; split <;> rfl
@[simp] theorem State.postBusError_psw (s : State) : s.postBusError.psw = s.psw := by unfold State.postBusError; split <;> rfl
@[simp] theorem State.postBusError_trap (s : State) : s.postBusError.trap = s.trap := by unfold State.postBusError; split <;> rfl
@[simp] theorem State.postBusError_mmu (s : State) : s.postBusError.mmu = s.mmu := by unfold State.postBusError; split <;> rfl
@[simp] theorem State.postBusError_brk (s : State) : s.postBusError.brk = s.brk := by unfold State.postBusError; split <;> rfl
@[simp] theorem State.postBusError_pm (s : State) : s.postBusError.pm = s.pm := by unfold State.postBusError; split <;> rfl
@[simp] theorem State.postBusError_sdi (s : State) : s.postBusError.sdi = s.sdi := by unfold State.postBusError; split <;> rfl
@[simp] theorem State.postBusError_intc (s : State) : s.postBusError.intc = s.intc := by unfold State.postBusError; split <;> rfl
@[simp] theorem State.postBusError_timers (s : State) : s.postBusError.timers = s.timers := by unfold State.postBusError; split <;> rfl
@[simp] theorem State.postBusError_dsu (s : State) : s.postBusError.dsu = s.dsu := by unfold State.postBusError; split <;> rfl
@[simp] theorem State.postBusError_pins (s : State) : s.postBusError.pins = s.pins := by unfold State.postBusError; split <;> rfl
@[simp] theorem State.postBusError_mem (s : State) : s.postBusError.mem = s.mem := by unfold State.postBusError; split <;> rfl
@[simp] theorem State.postBusError_dbgPending (s : State) : s.postBusError.dbgPending = s.dbgPending := by unfold State.postBusError; split <;> rfl
@[simp] theorem State.postBusError_idleMode (s : State) : s.postBusError.idleMode = s.idleMode := by unfold State.postBusError; split <;> rfl
@[simp] theorem State.postBusError_inputs (s : State) : s.postBusError.inputs = s.inputs := by unfold State.postBusError; split <;> rfl
@[simp] theorem State.postBusError_toHost (s : State) : s.postBusError.toHost = s.toHost := by unfold State.postBusError; split <;> rfl
@[simp] theorem State.postBusError_sdiStalled (s : State) : s.postBusError.sdiStalled = s.sdiStalled := by unfold State.postBusError; split <;> rfl
@[simp] theorem State.postBusError_bundle (s : State) : s.postBusError.bundle = s.bundle := by unfold State.postBusError; split <;> rfl
@[simp] theorem State.postBusError_oracle (s : State) : s.postBusError.oracle = s.oracle := by unfold State.postBusError; split <;> rfl

@[simp] theorem State.setSdiReset_cfg (s : State) (i : Fin 4) (v : Bool) : (s.setSdiReset i v).cfg = s.cfg := rfl
@[simp] theorem State.setSdiReset_pc (s : State) (i : Fin 4) (v : Bool) : (s.setSdiReset i v).pc = s.pc := rfl
@[simp] theorem State.setSdiReset_regs (s : State) (i : Fin 4) (v : Bool) : (s.setSdiReset i v).regs = s.regs := rfl
@[simp] theorem State.setSdiReset_branch (s : State) (i : Fin 4) (v : Bool) : (s.setSdiReset i v).branch = s.branch := rfl
@[simp] theorem State.setSdiReset_psw (s : State) (i : Fin 4) (v : Bool) : (s.setSdiReset i v).psw = s.psw := rfl
@[simp] theorem State.setSdiReset_trap (s : State) (i : Fin 4) (v : Bool) : (s.setSdiReset i v).trap = s.trap := rfl
@[simp] theorem State.setSdiReset_mmu (s : State) (i : Fin 4) (v : Bool) : (s.setSdiReset i v).mmu = s.mmu := rfl
@[simp] theorem State.setSdiReset_brk (s : State) (i : Fin 4) (v : Bool) : (s.setSdiReset i v).brk = s.brk := rfl
@[simp] theorem State.setSdiReset_pm (s : State) (i : Fin 4) (v : Bool) : (s.setSdiReset i v).pm = s.pm := rfl
@[simp] theorem State.setSdiReset_sdi (s : State) (i : Fin 4) (v : Bool) : (s.setSdiReset i v).sdi = s.sdi := rfl
@[simp] theorem State.setSdiReset_intc (s : State) (i : Fin 4) (v : Bool) : (s.setSdiReset i v).intc = s.intc := rfl
@[simp] theorem State.setSdiReset_timers (s : State) (i : Fin 4) (v : Bool) : (s.setSdiReset i v).timers = s.timers := rfl
@[simp] theorem State.setSdiReset_dsu (s : State) (i : Fin 4) (v : Bool) : (s.setSdiReset i v).dsu = s.dsu := rfl
@[simp] theorem State.setSdiReset_mem (s : State) (i : Fin 4) (v : Bool) : (s.setSdiReset i v).mem = s.mem := rfl
@[simp] theorem State.setSdiReset_dbgPending (s : State) (i : Fin 4) (v : Bool) : (s.setSdiReset i v).dbgPending = s.dbgPending := rfl
@[simp] theorem State.setSdiReset_dcError (s : State) (i : Fin 4) (v : Bool) : (s.setSdiReset i v).dcError = s.dcError := rfl
@[simp] theorem State.setSdiReset_idleMode (s : State) (i : Fin 4) (v : Bool) : (s.setSdiReset i v).idleMode = s.idleMode := rfl
@[simp] theorem State.setSdiReset_inputs (s : State) (i : Fin 4) (v : Bool) : (s.setSdiReset i v).inputs = s.inputs := rfl
@[simp] theorem State.setSdiReset_toHost (s : State) (i : Fin 4) (v : Bool) : (s.setSdiReset i v).toHost = s.toHost := rfl
@[simp] theorem State.setSdiReset_sdiStalled (s : State) (i : Fin 4) (v : Bool) : (s.setSdiReset i v).sdiStalled = s.sdiStalled := rfl
@[simp] theorem State.setSdiReset_bundle (s : State) (i : Fin 4) (v : Bool) : (s.setSdiReset i v).bundle = s.bundle := rfl
@[simp] theorem State.setSdiReset_oracle (s : State) (i : Fin 4) (v : Bool) : (s.setSdiReset i v).oracle = s.oracle := rfl
@[simp] theorem State.setSdiReset_sdiPort (s : State) (i j : Fin 4) (v : Bool) :
    (s.setSdiReset i v).sdiPort j = s.sdiPort j := rfl
@[simp] theorem State.setSdiPort_sdiResetInput (s : State) (i j : Fin 4) (p : SdiPort) :
    (s.setSdiPort i p).sdiResetInput j = s.sdiResetInput j := rfl
@[simp] theorem State.resetWith_sdiResetInput (cfg : Params) (m : Memory) (pins : Pins) (inputs : List (List EnvEvent))
    (sent : List DsuMessage) (n : Nat) (i : Fin 4) :
    (State.resetWith cfg m pins inputs sent n).sdiResetInput i = pins.sdiReset.get i := rfl

/-- RESETINPUT reads the level last driven, port by port. -/
theorem State.sdiResetInput_setSdiReset (s : State) (i j : Fin 4) (v : Bool) :
    (s.setSdiReset i v).sdiResetInput j = if j = i then v else s.sdiResetInput j := by
  simp only [State.sdiResetInput, State.setSdiReset, Vector.get_eq_getElem, Vector.getElem_set]
  by_cases h : j = i
  · simp [h]
  · rw [if_neg (fun e => h (Fin.ext e.symm)), if_neg h]

@[simp] theorem State.setPc_pc (s : State) (v : Word) : (s.setPc v).pc = alignDown v := rfl
@[simp] theorem State.advance_pc (s : State) (es : List Effect) :
    (s.advance es).pc = alignDown (s.nextSeqPc s.bundle.words) := rfl
@[simp] theorem State.advance_bundle (s : State) (es : List Effect) : (s.advance es).bundle = {} := rfl
@[simp] theorem State.advance_sdiStalled (s : State) (es : List Effect) : (s.advance es).sdiStalled = false := rfl
@[simp] theorem State.advance_idleMode (s : State) (es : List Effect) : (s.advance es).idleMode = false := rfl
@[simp] theorem State.takeException_pc (s : State) (r : Raised) :
    (s.takeException r).pc = alignDown s.trap.handlerPc := rfl
@[simp] theorem State.takeException_psw (s : State) (r : Raised) :
    (s.takeException r).psw = pswOnException s.psw := rfl
@[simp] theorem State.takeException_bundle (s : State) (r : Raised) : (s.takeException r).bundle = {} := rfl
@[simp] theorem State.takeException_savedPc (s : State) (r : Raised) :
    (s.takeException r).trap.savedPc = s.pc := rfl
@[simp] theorem State.takeException_savedPsw (s : State) (r : Raised) :
    (s.takeException r).trap.savedPsw = s.psw := rfl
@[simp] theorem State.takeException_exaddress (s : State) (r : Raised) :
    (s.takeException r).trap.exaddress = r.exceptAddress := rfl
@[simp] theorem State.enterDebug_pc (s : State) : s.enterDebug.pc = debugHandlerPc s.cfg := rfl
@[simp] theorem State.enterDebug_psw (s : State) : s.enterDebug.psw = pswOnDebug s.psw := rfl
@[simp] theorem State.enterDebug_bundle (s : State) : s.enterDebug.bundle = {} := rfl
@[simp] theorem State.returnFromException_pc (s : State) :
    s.returnFromException.pc = alignDown s.trap.savedPc := rfl
@[simp] theorem State.returnFromException_psw (s : State) :
    s.returnFromException.psw = pswAssign s.psw s.trap.savedPsw := rfl

end Sys2Proof.Machine
end

