-- ==== Sys2Proof/Laws/Ops.lean ====
section
/-! SUPPORT. One lemma per shared operation: what it can do. -/

namespace Sys2Proof.Machine

/-! ### Registers -/

@[simp] theorem State.gpr_zero (s : State) : s.gpr 0#6 = 0#32 := rfl

/-- The registers alone decide what a general register reads. -/
theorem State.gpr_congr {s t : State} (h : t.regs = s.regs) (r : RegNum) : t.gpr r = s.gpr r := by
  simp [State.gpr, h]

theorem State.gpr_setGpr_same (s : State) (r : RegNum) (v : Word) :
    (s.setGpr r v).gpr r = if r = 0#6 then 0#32 else v := by
  by_cases h : r = 0#6
  · simp [h]
  · have hr : r.toNat - 1 < 63 := by have := r.isLt; omega
    simp [State.gpr, State.setGpr, h, hr]

theorem State.gpr_setGpr_other (s : State) {r q : RegNum} (v : Word) (h : q ≠ r) :
    (s.setGpr r v).gpr q = s.gpr q := by
  by_cases hr : r = 0#6
  · simp [State.setGpr, hr]
  · by_cases hq : q = 0#6
    · simp [hq]
    · have hn : r.toNat - 1 ≠ q.toNat - 1 := by
        intro e
        have h1 : q.toNat ≠ 0 := fun e' => hq (BitVec.eq_of_toNat_eq (by simpa using e'))
        have h2 : r.toNat ≠ 0 := fun e' => hr (BitVec.eq_of_toNat_eq (by simpa using e'))
        exact h (BitVec.eq_of_toNat_eq (by omega))
      simp [State.gpr, State.setGpr, hr, hq, Vector.getElem?_setIfInBounds_ne hn]

theorem State.br_congr {s t : State} (h : t.branch = s.branch) (b : BrNum) : t.br b = s.br b := by
  simp [State.br, h]

theorem State.br_setBr_same (s : State) (b : BrNum) (v : Bool) : (s.setBr b v).br b = v := by
  show (s.branch.set b.toNat v b.isLt)[b.toNat]'b.isLt = v
  simp

theorem State.br_setBr_other (s : State) {b c : BrNum} (v : Bool) (h : c ≠ b) : (s.setBr b v).br c = s.br c := by
  have hn : b.toNat ≠ c.toNat := fun e => h (BitVec.eq_of_toNat_eq e.symm)
  have hc : c.toNat < 8 := c.isLt
  show (s.branch.set b.toNat v b.isLt)[c.toNat] = s.branch[c.toNat]
  exact Vector.getElem_set_ne b.isLt hc hn

/-! ### The PSW filter and the trap PSWs -/

/-- The write filter leaves reserved bits 0 (10 R33). -/
theorem pswAssign_reserved (old new : Word) : pswAssign old new &&& ~~~0x131F#32 = 0#32 := by
  unfold pswAssign; ext i hi; simp; interval_cases i <;> simp

/-- The write filter does not set DEBUG_MODE (10 R33). -/
theorem pswAssign_debugMode (old new : Word) (h : old.getLsbD 12 = false) :
    (pswAssign old new).getLsbD 12 = false := by
  simp [pswAssign] at *; simp [h]

/-! ### Priority -/

theorem highestPriority_mem : ∀ {rs : List Raised} {r : Raised}, highestPriority rs = some r → r ∈ rs
  | q :: rest, r, h => by
    unfold highestPriority at h
    cases hr : highestPriority rest with
    | none => rw [hr] at h; simp only [Option.some.injEq] at h; exact h ▸ List.mem_cons_self
    | some p =>
      rw [hr] at h
      simp only at h
      split at h
      · simp only [Option.some.injEq] at h
        exact List.mem_cons_of_mem _ (highestPriority_mem (h ▸ hr))
      · simp only [Option.some.injEq] at h; exact h ▸ List.mem_cons_self

/-- No thrown exception has a smaller number than the one reported (60 R520). -/
theorem highestPriority_le : ∀ {rs : List Raised} {r : Raised}, highestPriority rs = some r → ∀ q ∈ rs,
    r.cause.number ≤ q.cause.number
  | p :: rest, r, h, q, hq => by
    unfold highestPriority at h
    cases hr : highestPriority rest with
    | none =>
      rw [hr] at h; simp only [Option.some.injEq] at h
      cases rest with
      | nil => simp only [List.mem_singleton] at hq; subst hq; subst h; exact Nat.le_refl _
      | cons x xs =>
        exfalso
        unfold highestPriority at hr
        split at hr
        · split at hr <;> simp at hr
        · simp at hr
    | some m =>
      rw [hr] at h
      simp only at h
      rcases List.mem_cons.mp hq with rfl | hq'
      · split at h
        · simp only [Option.some.injEq] at h; subst h; omega
        · simp only [Option.some.injEq] at h; subst h; exact Nat.le_refl _
      · have hm := highestPriority_le hr q hq'
        split at h
        · simp only [Option.some.injEq] at h; subst h; exact hm
        · simp only [Option.some.injEq] at h; subst h; omega

/-- There is an exception to report unless none was thrown. -/
theorem highestPriority_eq_none : ∀ {rs : List Raised}, highestPriority rs = none ↔ rs = []
  | [] => by simp [highestPriority]
  | r :: rest => by unfold highestPriority; split <;> (try split) <;> simp

/-- The first thrown is reported if none of the others has a smaller number. -/
theorem highestPriority_cons {r : Raised} {rest : List Raised} (h : ∀ q ∈ rest, r.cause.number ≤ q.cause.number) :
    highestPriority (r :: rest) = some r := by
  unfold highestPriority
  split
  · rename_i q hq
    rw [if_neg (Nat.not_lt.mpr (h q (highestPriority_mem hq)))]
  · rfl

@[simp] theorem highestPriority_single (r : Raised) : highestPriority [r] = some r := rfl

/-! ### The performance monitor -/

/-- With counting on, a counter advances by what its event counts. -/
theorem Perf.advance_cnt (p : Perf) (t : PmTally) (oracle : Nat) (k : Fin 4) (h : p.enb = true) :
    (p.advance t true oracle).cnt.get k
      = p.cnt.get k + BitVec.ofNat 32 (eventCount t (Config.microEventCount oracle k) (p.event.get k)) := by
  simp only [Perf.advance, h, if_true]
  fin_cases k <;> rfl

/-- With counting off, nothing of the performance monitor moves. -/
theorem Perf.advance_off (p : Perf) (t : PmTally) (c : Bool) (oracle : Nat) (h : p.enb = false) :
    p.advance t c oracle = p := by
  simp [Perf.advance, h]

/-! ### Issuing and finishing -/

/-- Every operation issues one effect, which the state before the bundle, the bundle's length and the extension decide. -/
theorem exec_issue (i : Instr) : ∃ f : State → Effect, (∀ s, exec i s = issue (f s) s)
    ∧ ∀ (s : State) (b c : BundleCtx), b.words = c.words → b.ext = c.ext →
      f { s with bundle := b } = f { s with bundle := c } := by
  cases i
  all_goals exact ⟨_, fun s => rfl, by rintro s ⟨w, n, e, p⟩ ⟨_, m, _, q⟩ rfl rfl; rfl⟩

/-- Of the bundle under way, finishing it uses the length only. -/
theorem State.finishBundle_bundle (s : State) (b c : BundleCtx) (es : List Effect) (h : b.words = c.words) :
    State.finishBundle { s with bundle := b } es = State.finishBundle { s with bundle := c } es := by
  unfold State.finishBundle
  have ha : State.advance { s with bundle := b } es = State.advance { s with bundle := c } es := by
    simp only [State.advance, State.nextSeqPc, State.tick, h]
  split
  · rfl
  · split
    · rfl
    · simp only [State.retire, ha]

/-- Between bundles an operation is a bundle of its own. -/
theorem issue_alone (e : Effect) (s : State) (h : s.bundle = {}) : issue e s = .next (s.finishBundle [e]) := by
  simp [issue, h]

/-- The last operation of a bundle finishes it. -/
theorem issue_last (e : Effect) (s : State) (h : s.bundle.toIssue = 0) (hp : s.bundle.pending = []) :
    issue e s = .next (s.finishBundle [e]) := by
  simp [issue, h, hp]

/-- A bundle of one operation that throws takes its exception. -/
theorem State.finishBundle_raise (s : State) (e : Effect) (r : Raised) (h : e.raised = some r) :
    s.finishBundle [e] = s.takeException r := by
  simp [State.finishBundle, h]

/-- A bundle of one operation that throws nothing but must wait is a stalled cycle. -/
theorem State.finishBundle_stall (s : State) (e : Effect) (i : Fin 4) (h : e.raised = none) (hs : e.stall = some i) :
    s.finishBundle [e] = s.stallCycle i := by
  simp [State.finishBundle, h, hs, highestPriority]

/-- A bundle of one operation that neither throws nor waits commits. -/
theorem State.finishBundle_retire (s : State) (e : Effect) (h : e.raised = none) (hs : e.stall = none) :
    s.finishBundle [e] = s.retire [e] := by
  simp [State.finishBundle, h, hs, highestPriority]

/-- What finishing a bundle can do. -/
theorem State.finishBundle_cases (s : State) (es : List Effect) :
    (∃ r, s.finishBundle es = s.takeException r ∧ ∃ e ∈ es, e.raised = some r)
    ∨ (∃ i, s.finishBundle es = s.stallCycle i ∧ ∃ e ∈ es, e.stall = some i)
    ∨ s.finishBundle es = s.retire es ∧ (∀ e ∈ es, e.raised = none) ∧ ∀ e ∈ es, e.stall = none := by
  unfold State.finishBundle
  cases hp : highestPriority (es.filterMap fun e => e.raised) with
  | some r =>
    left
    have := highestPriority_mem hp
    simp only [List.mem_filterMap] at this
    obtain ⟨e, he, hr⟩ := this
    exact ⟨r, rfl, e, he, hr⟩
  | none =>
    right
    cases hf : es.findSome? fun e => e.stall with
    | some i =>
      left
      obtain ⟨e, he, hs⟩ := List.exists_of_findSome?_eq_some hf
      exact ⟨i, rfl, e, he, hs⟩
    | none =>
      right
      refine ⟨rfl, ?_, fun e he => List.findSome?_eq_none_iff.mp hf e he⟩
      intro e he
      cases hr : e.raised with
      | none => rfl
      | some r =>
        exfalso
        have hmem : r ∈ es.filterMap fun e => e.raised := List.mem_filterMap.mpr ⟨e, he, hr⟩
        cases hl : es.filterMap fun e => e.raised with
        | nil => rw [hl] at hmem; cases hmem
        | cons x xs =>
          rw [hl] at hp
          unfold highestPriority at hp
          split at hp
          · split at hp <;> simp at hp
          · simp at hp

/-- The assignments of a bundle of one operation. -/
@[simp] theorem bundleWrites_single (e : Effect) : bundleWrites [e] = e.writes := by simp [bundleWrites]

/-- A committed bundle of one operation: its assignments, applied past the bundle. -/
theorem State.retire_single (s : State) (e : Effect) :
    s.retire [e] = e.writes.foldl applyWrite (s.advance [e]) := by
  simp [State.retire]

end Sys2Proof.Machine
end

