-- ==== Sys2Proof/Laws/Fetch.lean ====
section
/-! SUPPORT. What the fetch of a bundle can do. -/

namespace Sys2Proof.Machine

/-- A bundle is fetched when no syllable is at fault. -/
theorem State.fetchBundle_ok {s : State} {ws : List Word} :
    s.fetchBundle = .ok ws ↔ s.fetchFaults = [] ∧ s.wordsFrom s.pc 4 = ws := by
  unfold State.fetchBundle
  split
  · rename_i r hr
    have : s.fetchFaults ≠ [] := fun e => by rw [highestPriority_eq_none.mpr e] at hr; cases hr
    simp [this]
  · rename_i hn
    simp [highestPriority_eq_none.mp hn]

/-- Otherwise the exception of highest priority among the syllables' is reported. -/
theorem State.fetchBundle_error {s : State} {r : Raised} :
    s.fetchBundle = .error r ↔ highestPriority s.fetchFaults = some r := by
  unfold State.fetchBundle
  split <;> simp_all

/-- A syllable's fetch raises ITLB with its address, or STBUS_IC_ERROR. -/
theorem State.fetchFault_cases {s : State} {a : Word} {r : Raised} (h : s.fetchFault a = some r) :
    r = s.raiseItlb a ∨ r = { cause := .stbusIcError } := by
  unfold State.fetchFault at h
  split at h
  · exact .inl (Option.some.inj h).symm
  · split at h
    · cases h
    · exact .inr (Option.some.inj h).symm

/-- The address of syllable `j + 1` from `a` is that of syllable `j` from the next word. -/
theorem syllable_address (a : Word) (j : Nat) :
    a + 4#32 + BitVec.ofNat 32 (4 * j) = a + BitVec.ofNat 32 (4 * (j + 1)) := by
  rw [BitVec.add_assoc]; congr 1; apply BitVec.eq_of_toNat_eq; simp; omega

/-- Every exception of a fetch is one of its syllables'. -/
theorem State.fetchFaultsFrom_mem (s : State) {q : Raised} : ∀ {n : Nat} {a : Word}, q ∈ s.fetchFaultsFrom a n →
    ∃ j, j < n ∧ s.fetchFault (a + BitVec.ofNat 32 (4 * j)) = some q
  | n + 1, a, h => by
    have later : q ∈ s.fetchFaultsFrom (a + 4#32) n →
        ∃ j, j < n + 1 ∧ s.fetchFault (a + BitVec.ofNat 32 (4 * j)) = some q := fun h' => by
      obtain ⟨j, hj, hq⟩ := s.fetchFaultsFrom_mem h'
      exact ⟨j + 1, by omega, by rw [← syllable_address]; exact hq⟩
    have here : s.fetchFault a = some q → ∃ j, j < n + 1 ∧ s.fetchFault (a + BitVec.ofNat 32 (4 * j)) = some q :=
      fun h' => ⟨0, by omega, by simpa using h'⟩
    unfold State.fetchFaultsFrom at h
    split at h
    · rcases List.mem_append.mp h with h | h
      · exact here (Option.mem_toList.mp h)
      · split at h
        · cases h
        · exact later h
    · rename_i hf _
      rcases List.mem_cons.mp h with rfl | h
      · exact here hf
      · split at h
        · cases h
        · exact later (List.mem_filter.mp h).1
    · cases h

/-- A faulting syllable's exception stands before those of later syllables. -/
theorem State.fetchFaultsFrom_cons {s : State} {a : Word} {r : Raised} (h : s.fetchFault a = some r) (n : Nat) :
    ∃ rest, s.fetchFaultsFrom a (n + 1) = r :: rest
      ∧ ∀ q ∈ rest, ∃ j, 0 < j ∧ j < n + 1 ∧ s.fetchFault (a + BitVec.ofNat 32 (4 * j)) = some q := by
  have later : ∀ q ∈ s.fetchFaultsFrom (a + 4#32) n,
      ∃ j, 0 < j ∧ j < n + 1 ∧ s.fetchFault (a + BitVec.ofNat 32 (4 * j)) = some q := fun q hq => by
    obtain ⟨j, hj, hq⟩ := s.fetchFaultsFrom_mem hq
    exact ⟨j + 1, by omega, by omega, by rw [← syllable_address]; exact hq⟩
  unfold State.fetchFaultsFrom
  rw [h]
  cases s.syllableWord a with
  | some w =>
    refine ⟨_, rfl, fun q hq => ?_⟩
    split at hq
    · cases hq
    · exact later q hq
  | none =>
    refine ⟨_, rfl, fun q hq => ?_⟩
    split at hq
    · cases hq
    · exact later q (List.mem_filter.mp hq).1

/-- While every syllable before the `k`-th has a word without a stop bit, the fetch goes on to the `k`-th. -/
theorem State.fetchFaultsFrom_split (s : State) : ∀ (k n : Nat) (a : Word),
    (∀ j, j < k → ∃ w, s.syllableWord (a + BitVec.ofNat 32 (4 * j)) = some w ∧ stopBit w = false) →
    s.fetchFaultsFrom a (k + n) = ((List.range k).filterMap fun j => s.fetchFault (a + BitVec.ofNat 32 (4 * j)))
      ++ s.fetchFaultsFrom (a + BitVec.ofNat 32 (4 * k)) n
  | 0, n, a, _ => by simp
  | k + 1, n, a, h => by
    obtain ⟨w, hw, hs⟩ := h 0 (by omega)
    rw [show BitVec.ofNat 32 (4 * 0) = 0#32 from rfl, BitVec.add_zero] at hw
    have ih := s.fetchFaultsFrom_split k n (a + 4#32) fun j hj => by rw [syllable_address]; exact h (j + 1) (by omega)
    rw [show k + 1 + n = k + n + 1 by omega, State.fetchFaultsFrom, hw]
    simp only [hs, ih, syllable_address, List.range_succ_eq_map, List.filterMap_cons, List.filterMap_map]
    cases hf : s.fetchFault a <;> simp [hf]

/-- The words of a bundle of `k + 1` syllables of which the last has its stop bit or is the fourth. -/
theorem State.wordsFrom_split (s : State) (f : Nat → Word) : ∀ (k n : Nat) (a : Word),
    (∀ j, j < k + 1 → s.syllableWord (a + BitVec.ofNat 32 (4 * j)) = some (f j)) →
    (∀ j, j < k → stopBit (f j) = false) → stopBit (f k) = true ∨ n = 0 →
    s.wordsFrom a (k + 1 + n) = (List.range (k + 1)).map f
  | 0, n, a, h, _, hs => by
    have h0 := h 0 (by omega)
    rw [show BitVec.ofNat 32 (4 * 0) = 0#32 from rfl, BitVec.add_zero] at h0
    rw [show 0 + 1 + n = n + 1 by omega, State.wordsFrom, h0]
    rcases hs with hs | rfl
    · simp [hs]
    · simp [State.wordsFrom]
  | k + 1, n, a, h, hn, hs => by
    have h0 := h 0 (by omega)
    rw [show BitVec.ofNat 32 (4 * 0) = 0#32 from rfl, BitVec.add_zero] at h0
    have ih := s.wordsFrom_split (fun j => f (j + 1)) k n (a + 4#32)
      (fun j hj => by rw [syllable_address]; exact h (j + 1) (by omega)) (fun j hj => hn (j + 1) (by omega)) hs
    rw [show k + 1 + 1 + n = k + 1 + n + 1 by omega, State.wordsFrom, h0, List.range_succ_eq_map]
    simp [hn 0 (by omega), ih]

end Sys2Proof.Machine
end

