-- ==== Sys2Proof/Laws/Lfsr.lean ====
section
/-! SUPPORT. The step of TLB_REPLACE's LFSR as a linear map, so that a power of it is computed by squaring. -/

namespace Sys2Proof.Machine

/-- The linear map that sends bit `k` to the `k`-th vector of a list. -/
def linearMap : List (BitVec 16) → BitVec 16 → BitVec 16
  | [], _ => 0#16
  | c :: cs, x => (if x.getLsbD 0 then c else 0#16) ^^^ linearMap cs (x >>> 1)

/-- The vectors of the map applied twice. -/
def squared (cs : List (BitVec 16)) : List (BitVec 16) := cs.map (linearMap cs)

/-- The vectors of `lfsrStep`. -/
def lfsrColumns : List (BitVec 16) :=
  [0x0002#16, 0x0004#16, 0x0008#16, 0x0011#16, 0x0020#16, 0x0040#16, 0x0080#16, 0x0100#16,
   0x0200#16, 0x0400#16, 0x0800#16, 0x1000#16, 0x2001#16, 0x4000#16, 0x8001#16, 0x0001#16]

/-- The vectors of `lfsrStep` applied `2 ^ k` times. -/
def lfsrPower (k : Nat) : List (BitVec 16) := squared^[k] lfsrColumns

theorem linearMap_xor : ∀ (cs : List (BitVec 16)) (x y : BitVec 16),
    linearMap cs (x ^^^ y) = linearMap cs x ^^^ linearMap cs y
  | [], _, _ => by simp [linearMap]
  | c :: cs, x, y => by
    have h : (x ^^^ y) >>> 1 = (x >>> 1) ^^^ (y >>> 1) := by ext i hi; simp
    have hc : (if (x ^^^ y).getLsbD 0 then c else 0#16)
        = (if x.getLsbD 0 then c else 0#16) ^^^ (if y.getLsbD 0 then c else 0#16) := by
      rw [BitVec.getLsbD_xor]; cases x.getLsbD 0 <;> cases y.getLsbD 0 <;> simp
    rw [linearMap, linearMap, linearMap, h, hc, linearMap_xor cs]
    ac_rfl

theorem linearMap_zero : ∀ cs : List (BitVec 16), linearMap cs 0#16 = 0#16
  | [] => rfl
  | c :: cs => by simp [linearMap, linearMap_zero cs]

/-- Mapping the vectors composes the maps. -/
theorem linearMap_map (cs : List (BitVec 16)) : ∀ (ds : List (BitVec 16)) (x : BitVec 16),
    linearMap (ds.map (linearMap cs)) x = linearMap cs (linearMap ds x)
  | [], _ => by simp [linearMap, linearMap_zero]
  | d :: ds, x => by
    rw [List.map_cons, linearMap, linearMap, linearMap_map cs ds, linearMap_xor]
    cases x.getLsbD 0 <;> simp [linearMap_zero]

theorem lfsrStep_linear (x : BitVec 16) : lfsrStep x = linearMap lfsrColumns x := by
  have hite : ∀ (b : Bool) (c : BitVec 16) (i : Nat), (if b then c else 0#16).getLsbD i = (b && c.getLsbD i) := by
    intro b c i; cases b <;> simp
  apply BitVec.eq_of_getLsbD_eq
  intro i hi
  simp only [lfsrColumns, linearMap, BitVec.getLsbD_xor, hite, lfsrStep, BitVec.getLsbD_append,
    BitVec.getLsbD_ushiftRight]
  interval_cases i <;> simp

/-- `2 ^ k` steps of the LFSR. -/
theorem lfsrStep_iterate_two_pow : ∀ k : Nat, lfsrStep^[2 ^ k] = linearMap (lfsrPower k)
  | 0 => funext fun x => by simpa [lfsrPower] using lfsrStep_linear x
  | k + 1 => by
    funext x
    rw [Nat.pow_succ, Nat.mul_two, Function.iterate_add_apply, lfsrStep_iterate_two_pow k, ← linearMap_map]
    simp only [lfsrPower, Function.iterate_succ_apply', squared]

end Sys2Proof.Machine
end

