-- ==== Sys2Proof/Laws/PerInstr.lean ====
section
/-! SUPPORT. Statements about every instruction as syntax, one lemma per constructor. -/

namespace Sys2Proof.Laws

theorem encInt3R_stop (opc : BitVec 5) (d s1 s2 : RegNum) : stopBit (encInt3R true opc d s1 s2) = true := by
  simp only [stopBit, encInt3R, stopBits, BitVec.getLsbD_append]; rfl

theorem encInt3I_stop (opc : BitVec 5) (d s1 : RegNum) (i : BitVec 9) : stopBit (encInt3I true opc d s1 i) = true := by
  simp only [stopBit, encInt3I, stopBits, BitVec.getLsbD_append]; rfl

theorem encCmpRR_stop (opc : BitVec 4) (d s1 s2 : RegNum) : stopBit (encCmpRR true opc d s1 s2) = true := by
  simp only [stopBit, encCmpRR, stopBits, BitVec.getLsbD_append]; rfl

theorem encCmpBR_stop (opc : BitVec 4) (b : BrNum) (s1 s2 : RegNum) : stopBit (encCmpBR true opc b s1 s2) = true := by
  simp only [stopBit, encCmpBR, stopBits, BitVec.getLsbD_append]; rfl

theorem encCmpRI_stop (opc : BitVec 4) (d s1 : RegNum) (i : BitVec 9) : stopBit (encCmpRI true opc d s1 i) = true := by
  simp only [stopBit, encCmpRI, stopBits, BitVec.getLsbD_append]; rfl

theorem encCmpBI_stop (opc : BitVec 4) (b : BrNum) (s1 : RegNum) (i : BitVec 9) : stopBit (encCmpBI true opc b s1 i) = true := by
  simp only [stopBit, encCmpBI, stopBits, BitVec.getLsbD_append]; rfl

theorem encMul64R_stop (opc : BitVec 5) (d s1 s2 : RegNum) : stopBit (encMul64R true opc d s1 s2) = true := by
  simp only [stopBit, encMul64R, stopBits, BitVec.getLsbD_append]; rfl

theorem encMul64I_stop (opc : BitVec 5) (d s1 : RegNum) (i : BitVec 9) : stopBit (encMul64I true opc d s1 i) = true := by
  simp only [stopBit, encMul64I, stopBits, BitVec.getLsbD_append]; rfl

theorem encSelectR_stop (opc : BitVec 3) (d : RegNum) (c : BrNum) (s1 s2 : RegNum) : stopBit (encSelectR true opc d c s1 s2) = true := by
  simp only [stopBit, encSelectR, stopBits, BitVec.getLsbD_append]; rfl

theorem encSelectI_stop (opc : BitVec 3) (d : RegNum) (c : BrNum) (s1 : RegNum) (i : BitVec 9) : stopBit (encSelectI true opc d c s1 i) = true := by
  simp only [stopBit, encSelectI, stopBits, BitVec.getLsbD_append]; rfl

theorem encCgen_stop (opc : BitVec 4) (d : RegNum) (b c : BrNum) (s1 s2 : RegNum) : stopBit (encCgen true opc d b c s1 s2) = true := by
  simp only [stopBit, encCgen, stopBits, BitVec.getLsbD_append]; rfl

theorem encImm_stop (opc : BitVec 5) (v : BitVec 23) : stopBit (encImm true opc v) = true := by
  simp only [stopBit, encImm, stopBits, BitVec.getLsbD_append]; rfl

theorem encSystem_stop (opc : BitVec 7) (n : BitVec 21) : stopBit (encSystem true opc n) = true := by
  simp only [stopBit, encSystem, stopBits, BitVec.getLsbD_append]; rfl

theorem encMemory_stop (opc : BitVec 5) (i : BitVec 9) (r s1 : RegNum) : stopBit (encMemory true opc i r s1) = true := by
  simp only [stopBit, encMemory, stopBits, BitVec.getLsbD_append]; rfl

theorem encCall_stop (opc : BitVec 3) (lnk : BitVec 1) (t : BitVec 23) : stopBit (encCall true opc lnk t) = true := by
  simp only [stopBit, encCall, stopBits, BitVec.getLsbD_append]; rfl

theorem encBranch_stop (opc : BitVec 1) (c : BrNum) (t : BitVec 23) : stopBit (encBranch true opc c t) = true := by
  simp only [stopBit, encBranch, stopBits, BitVec.getLsbD_append]; rfl

/-- The syllable the encoder gives an operation that ends its bundle has its stop bit set (30 R201). -/
def StopBit.Statement (i : Instr) : Prop := stopBit (encodeSyllable true i) = true

theorem StopBit.addR (d : RegNum) (s1 : RegNum) (s2 : RegNum) : StopBit.Statement (.addR d s1 s2) := encInt3R_stop _ _ _ _
theorem StopBit.addI (d : RegNum) (s1 : RegNum) (i : BitVec 9) : StopBit.Statement (.addI d s1 i) := encInt3I_stop _ _ _ _
theorem StopBit.subR (d : RegNum) (s1 : RegNum) (s2 : RegNum) : StopBit.Statement (.subR d s1 s2) := encInt3R_stop _ _ _ _
theorem StopBit.subI (d : RegNum) (s1 : RegNum) (i : BitVec 9) : StopBit.Statement (.subI d s1 i) := encInt3I_stop _ _ _ _
theorem StopBit.shlR (d : RegNum) (s1 : RegNum) (s2 : RegNum) : StopBit.Statement (.shlR d s1 s2) := encInt3R_stop _ _ _ _
theorem StopBit.shlI (d : RegNum) (s1 : RegNum) (i : BitVec 9) : StopBit.Statement (.shlI d s1 i) := encInt3I_stop _ _ _ _
theorem StopBit.shrR (d : RegNum) (s1 : RegNum) (s2 : RegNum) : StopBit.Statement (.shrR d s1 s2) := encInt3R_stop _ _ _ _
theorem StopBit.shrI (d : RegNum) (s1 : RegNum) (i : BitVec 9) : StopBit.Statement (.shrI d s1 i) := encInt3I_stop _ _ _ _
theorem StopBit.shruR (d : RegNum) (s1 : RegNum) (s2 : RegNum) : StopBit.Statement (.shruR d s1 s2) := encInt3R_stop _ _ _ _
theorem StopBit.shruI (d : RegNum) (s1 : RegNum) (i : BitVec 9) : StopBit.Statement (.shruI d s1 i) := encInt3I_stop _ _ _ _
theorem StopBit.sh1addR (d : RegNum) (s1 : RegNum) (s2 : RegNum) : StopBit.Statement (.sh1addR d s1 s2) := encInt3R_stop _ _ _ _
theorem StopBit.sh1addI (d : RegNum) (s1 : RegNum) (i : BitVec 9) : StopBit.Statement (.sh1addI d s1 i) := encInt3I_stop _ _ _ _
theorem StopBit.sh2addR (d : RegNum) (s1 : RegNum) (s2 : RegNum) : StopBit.Statement (.sh2addR d s1 s2) := encInt3R_stop _ _ _ _
theorem StopBit.sh2addI (d : RegNum) (s1 : RegNum) (i : BitVec 9) : StopBit.Statement (.sh2addI d s1 i) := encInt3I_stop _ _ _ _
theorem StopBit.sh3addR (d : RegNum) (s1 : RegNum) (s2 : RegNum) : StopBit.Statement (.sh3addR d s1 s2) := encInt3R_stop _ _ _ _
theorem StopBit.sh3addI (d : RegNum) (s1 : RegNum) (i : BitVec 9) : StopBit.Statement (.sh3addI d s1 i) := encInt3I_stop _ _ _ _
theorem StopBit.sh4addR (d : RegNum) (s1 : RegNum) (s2 : RegNum) : StopBit.Statement (.sh4addR d s1 s2) := encInt3R_stop _ _ _ _
theorem StopBit.sh4addI (d : RegNum) (s1 : RegNum) (i : BitVec 9) : StopBit.Statement (.sh4addI d s1 i) := encInt3I_stop _ _ _ _
theorem StopBit.andR (d : RegNum) (s1 : RegNum) (s2 : RegNum) : StopBit.Statement (.andR d s1 s2) := encInt3R_stop _ _ _ _
theorem StopBit.andI (d : RegNum) (s1 : RegNum) (i : BitVec 9) : StopBit.Statement (.andI d s1 i) := encInt3I_stop _ _ _ _
theorem StopBit.andcR (d : RegNum) (s1 : RegNum) (s2 : RegNum) : StopBit.Statement (.andcR d s1 s2) := encInt3R_stop _ _ _ _
theorem StopBit.andcI (d : RegNum) (s1 : RegNum) (i : BitVec 9) : StopBit.Statement (.andcI d s1 i) := encInt3I_stop _ _ _ _
theorem StopBit.orR (d : RegNum) (s1 : RegNum) (s2 : RegNum) : StopBit.Statement (.orR d s1 s2) := encInt3R_stop _ _ _ _
theorem StopBit.orI (d : RegNum) (s1 : RegNum) (i : BitVec 9) : StopBit.Statement (.orI d s1 i) := encInt3I_stop _ _ _ _
theorem StopBit.orcR (d : RegNum) (s1 : RegNum) (s2 : RegNum) : StopBit.Statement (.orcR d s1 s2) := encInt3R_stop _ _ _ _
theorem StopBit.orcI (d : RegNum) (s1 : RegNum) (i : BitVec 9) : StopBit.Statement (.orcI d s1 i) := encInt3I_stop _ _ _ _
theorem StopBit.xorR (d : RegNum) (s1 : RegNum) (s2 : RegNum) : StopBit.Statement (.xorR d s1 s2) := encInt3R_stop _ _ _ _
theorem StopBit.xorI (d : RegNum) (s1 : RegNum) (i : BitVec 9) : StopBit.Statement (.xorI d s1 i) := encInt3I_stop _ _ _ _
theorem StopBit.maxR (d : RegNum) (s1 : RegNum) (s2 : RegNum) : StopBit.Statement (.maxR d s1 s2) := encInt3R_stop _ _ _ _
theorem StopBit.maxI (d : RegNum) (s1 : RegNum) (i : BitVec 9) : StopBit.Statement (.maxI d s1 i) := encInt3I_stop _ _ _ _
theorem StopBit.maxuR (d : RegNum) (s1 : RegNum) (s2 : RegNum) : StopBit.Statement (.maxuR d s1 s2) := encInt3R_stop _ _ _ _
theorem StopBit.maxuI (d : RegNum) (s1 : RegNum) (i : BitVec 9) : StopBit.Statement (.maxuI d s1 i) := encInt3I_stop _ _ _ _
theorem StopBit.minR (d : RegNum) (s1 : RegNum) (s2 : RegNum) : StopBit.Statement (.minR d s1 s2) := encInt3R_stop _ _ _ _
theorem StopBit.minI (d : RegNum) (s1 : RegNum) (i : BitVec 9) : StopBit.Statement (.minI d s1 i) := encInt3I_stop _ _ _ _
theorem StopBit.minuR (d : RegNum) (s1 : RegNum) (s2 : RegNum) : StopBit.Statement (.minuR d s1 s2) := encInt3R_stop _ _ _ _
theorem StopBit.minuI (d : RegNum) (s1 : RegNum) (i : BitVec 9) : StopBit.Statement (.minuI d s1 i) := encInt3I_stop _ _ _ _
theorem StopBit.sxtb (d : RegNum) (s1 : RegNum) : StopBit.Statement (.sxtb d s1) := encInt3I_stop _ _ _ _
theorem StopBit.sxth (d : RegNum) (s1 : RegNum) : StopBit.Statement (.sxth d s1) := encInt3I_stop _ _ _ _
theorem StopBit.bswap (d : RegNum) (s1 : RegNum) : StopBit.Statement (.bswap d s1) := encInt3I_stop _ _ _ _
theorem StopBit.zxth (d : RegNum) (s1 : RegNum) : StopBit.Statement (.zxth d s1) := encInt3I_stop _ _ _ _
theorem StopBit.clz (d : RegNum) (s1 : RegNum) : StopBit.Statement (.clz d s1) := encInt3I_stop _ _ _ _
theorem StopBit.mullhusR (d : RegNum) (s1 : RegNum) (s2 : RegNum) : StopBit.Statement (.mullhusR d s1 s2) := encInt3R_stop _ _ _ _
theorem StopBit.mullhusI (d : RegNum) (s1 : RegNum) (i : BitVec 9) : StopBit.Statement (.mullhusI d s1 i) := encInt3I_stop _ _ _ _
theorem StopBit.mulhhsR (d : RegNum) (s1 : RegNum) (s2 : RegNum) : StopBit.Statement (.mulhhsR d s1 s2) := encInt3R_stop _ _ _ _
theorem StopBit.mulhhsI (d : RegNum) (s1 : RegNum) (i : BitVec 9) : StopBit.Statement (.mulhhsI d s1 i) := encInt3I_stop _ _ _ _
theorem StopBit.mullR (d : RegNum) (s1 : RegNum) (s2 : RegNum) : StopBit.Statement (.mullR d s1 s2) := encInt3R_stop _ _ _ _
theorem StopBit.mullI (d : RegNum) (s1 : RegNum) (i : BitVec 9) : StopBit.Statement (.mullI d s1 i) := encInt3I_stop _ _ _ _
theorem StopBit.mulluR (d : RegNum) (s1 : RegNum) (s2 : RegNum) : StopBit.Statement (.mulluR d s1 s2) := encInt3R_stop _ _ _ _
theorem StopBit.mulluI (d : RegNum) (s1 : RegNum) (i : BitVec 9) : StopBit.Statement (.mulluI d s1 i) := encInt3I_stop _ _ _ _
theorem StopBit.mulhR (d : RegNum) (s1 : RegNum) (s2 : RegNum) : StopBit.Statement (.mulhR d s1 s2) := encInt3R_stop _ _ _ _
theorem StopBit.mulhI (d : RegNum) (s1 : RegNum) (i : BitVec 9) : StopBit.Statement (.mulhI d s1 i) := encInt3I_stop _ _ _ _
theorem StopBit.mulhuR (d : RegNum) (s1 : RegNum) (s2 : RegNum) : StopBit.Statement (.mulhuR d s1 s2) := encInt3R_stop _ _ _ _
theorem StopBit.mulhuI (d : RegNum) (s1 : RegNum) (i : BitVec 9) : StopBit.Statement (.mulhuI d s1 i) := encInt3I_stop _ _ _ _
theorem StopBit.mulllR (d : RegNum) (s1 : RegNum) (s2 : RegNum) : StopBit.Statement (.mulllR d s1 s2) := encInt3R_stop _ _ _ _
theorem StopBit.mulllI (d : RegNum) (s1 : RegNum) (i : BitVec 9) : StopBit.Statement (.mulllI d s1 i) := encInt3I_stop _ _ _ _
theorem StopBit.mullluR (d : RegNum) (s1 : RegNum) (s2 : RegNum) : StopBit.Statement (.mullluR d s1 s2) := encInt3R_stop _ _ _ _
theorem StopBit.mullluI (d : RegNum) (s1 : RegNum) (i : BitVec 9) : StopBit.Statement (.mullluI d s1 i) := encInt3I_stop _ _ _ _
theorem StopBit.mullhR (d : RegNum) (s1 : RegNum) (s2 : RegNum) : StopBit.Statement (.mullhR d s1 s2) := encInt3R_stop _ _ _ _
theorem StopBit.mullhI (d : RegNum) (s1 : RegNum) (i : BitVec 9) : StopBit.Statement (.mullhI d s1 i) := encInt3I_stop _ _ _ _
theorem StopBit.mullhuR (d : RegNum) (s1 : RegNum) (s2 : RegNum) : StopBit.Statement (.mullhuR d s1 s2) := encInt3R_stop _ _ _ _
theorem StopBit.mullhuI (d : RegNum) (s1 : RegNum) (i : BitVec 9) : StopBit.Statement (.mullhuI d s1 i) := encInt3I_stop _ _ _ _
theorem StopBit.mulhhR (d : RegNum) (s1 : RegNum) (s2 : RegNum) : StopBit.Statement (.mulhhR d s1 s2) := encInt3R_stop _ _ _ _
theorem StopBit.mulhhI (d : RegNum) (s1 : RegNum) (i : BitVec 9) : StopBit.Statement (.mulhhI d s1 i) := encInt3I_stop _ _ _ _
theorem StopBit.mulhhuR (d : RegNum) (s1 : RegNum) (s2 : RegNum) : StopBit.Statement (.mulhhuR d s1 s2) := encInt3R_stop _ _ _ _
theorem StopBit.mulhhuI (d : RegNum) (s1 : RegNum) (i : BitVec 9) : StopBit.Statement (.mulhhuI d s1 i) := encInt3I_stop _ _ _ _
theorem StopBit.mulhsR (d : RegNum) (s1 : RegNum) (s2 : RegNum) : StopBit.Statement (.mulhsR d s1 s2) := encInt3R_stop _ _ _ _
theorem StopBit.mulhsI (d : RegNum) (s1 : RegNum) (i : BitVec 9) : StopBit.Statement (.mulhsI d s1 i) := encInt3I_stop _ _ _ _
theorem StopBit.cmpeqRR (d : RegNum) (s1 : RegNum) (s2 : RegNum) : StopBit.Statement (.cmpeqRR d s1 s2) := encCmpRR_stop _ _ _ _
theorem StopBit.cmpeqBR (b : BrNum) (s1 : RegNum) (s2 : RegNum) : StopBit.Statement (.cmpeqBR b s1 s2) := encCmpBR_stop _ _ _ _
theorem StopBit.cmpeqRI (d : RegNum) (s1 : RegNum) (i : BitVec 9) : StopBit.Statement (.cmpeqRI d s1 i) := encCmpRI_stop _ _ _ _
theorem StopBit.cmpeqBI (b : BrNum) (s1 : RegNum) (i : BitVec 9) : StopBit.Statement (.cmpeqBI b s1 i) := encCmpBI_stop _ _ _ _
theorem StopBit.cmpneRR (d : RegNum) (s1 : RegNum) (s2 : RegNum) : StopBit.Statement (.cmpneRR d s1 s2) := encCmpRR_stop _ _ _ _
theorem StopBit.cmpneBR (b : BrNum) (s1 : RegNum) (s2 : RegNum) : StopBit.Statement (.cmpneBR b s1 s2) := encCmpBR_stop _ _ _ _
theorem StopBit.cmpneRI (d : RegNum) (s1 : RegNum) (i : BitVec 9) : StopBit.Statement (.cmpneRI d s1 i) := encCmpRI_stop _ _ _ _
theorem StopBit.cmpneBI (b : BrNum) (s1 : RegNum) (i : BitVec 9) : StopBit.Statement (.cmpneBI b s1 i) := encCmpBI_stop _ _ _ _
theorem StopBit.cmpgeRR (d : RegNum) (s1 : RegNum) (s2 : RegNum) : StopBit.Statement (.cmpgeRR d s1 s2) := encCmpRR_stop _ _ _ _
theorem StopBit.cmpgeBR (b : BrNum) (s1 : RegNum) (s2 : RegNum) : StopBit.Statement (.cmpgeBR b s1 s2) := encCmpBR_stop _ _ _ _
theorem StopBit.cmpgeRI (d : RegNum) (s1 : RegNum) (i : BitVec 9) : StopBit.Statement (.cmpgeRI d s1 i) := encCmpRI_stop _ _ _ _
theorem StopBit.cmpgeBI (b : BrNum) (s1 : RegNum) (i : BitVec 9) : StopBit.Statement (.cmpgeBI b s1 i) := encCmpBI_stop _ _ _ _
theorem StopBit.cmpgeuRR (d : RegNum) (s1 : RegNum) (s2 : RegNum) : StopBit.Statement (.cmpgeuRR d s1 s2) := encCmpRR_stop _ _ _ _
theorem StopBit.cmpgeuBR (b : BrNum) (s1 : RegNum) (s2 : RegNum) : StopBit.Statement (.cmpgeuBR b s1 s2) := encCmpBR_stop _ _ _ _
theorem StopBit.cmpgeuRI (d : RegNum) (s1 : RegNum) (i : BitVec 9) : StopBit.Statement (.cmpgeuRI d s1 i) := encCmpRI_stop _ _ _ _
theorem StopBit.cmpgeuBI (b : BrNum) (s1 : RegNum) (i : BitVec 9) : StopBit.Statement (.cmpgeuBI b s1 i) := encCmpBI_stop _ _ _ _
theorem StopBit.cmpgtRR (d : RegNum) (s1 : RegNum) (s2 : RegNum) : StopBit.Statement (.cmpgtRR d s1 s2) := encCmpRR_stop _ _ _ _
theorem StopBit.cmpgtBR (b : BrNum) (s1 : RegNum) (s2 : RegNum) : StopBit.Statement (.cmpgtBR b s1 s2) := encCmpBR_stop _ _ _ _
theorem StopBit.cmpgtRI (d : RegNum) (s1 : RegNum) (i : BitVec 9) : StopBit.Statement (.cmpgtRI d s1 i) := encCmpRI_stop _ _ _ _
theorem StopBit.cmpgtBI (b : BrNum) (s1 : RegNum) (i : BitVec 9) : StopBit.Statement (.cmpgtBI b s1 i) := encCmpBI_stop _ _ _ _
theorem StopBit.cmpgtuRR (d : RegNum) (s1 : RegNum) (s2 : RegNum) : StopBit.Statement (.cmpgtuRR d s1 s2) := encCmpRR_stop _ _ _ _
theorem StopBit.cmpgtuBR (b : BrNum) (s1 : RegNum) (s2 : RegNum) : StopBit.Statement (.cmpgtuBR b s1 s2) := encCmpBR_stop _ _ _ _
theorem StopBit.cmpgtuRI (d : RegNum) (s1 : RegNum) (i : BitVec 9) : StopBit.Statement (.cmpgtuRI d s1 i) := encCmpRI_stop _ _ _ _
theorem StopBit.cmpgtuBI (b : BrNum) (s1 : RegNum) (i : BitVec 9) : StopBit.Statement (.cmpgtuBI b s1 i) := encCmpBI_stop _ _ _ _
theorem StopBit.cmpleRR (d : RegNum) (s1 : RegNum) (s2 : RegNum) : StopBit.Statement (.cmpleRR d s1 s2) := encCmpRR_stop _ _ _ _
theorem StopBit.cmpleBR (b : BrNum) (s1 : RegNum) (s2 : RegNum) : StopBit.Statement (.cmpleBR b s1 s2) := encCmpBR_stop _ _ _ _
theorem StopBit.cmpleRI (d : RegNum) (s1 : RegNum) (i : BitVec 9) : StopBit.Statement (.cmpleRI d s1 i) := encCmpRI_stop _ _ _ _
theorem StopBit.cmpleBI (b : BrNum) (s1 : RegNum) (i : BitVec 9) : StopBit.Statement (.cmpleBI b s1 i) := encCmpBI_stop _ _ _ _
theorem StopBit.cmpleuRR (d : RegNum) (s1 : RegNum) (s2 : RegNum) : StopBit.Statement (.cmpleuRR d s1 s2) := encCmpRR_stop _ _ _ _
theorem StopBit.cmpleuBR (b : BrNum) (s1 : RegNum) (s2 : RegNum) : StopBit.Statement (.cmpleuBR b s1 s2) := encCmpBR_stop _ _ _ _
theorem StopBit.cmpleuRI (d : RegNum) (s1 : RegNum) (i : BitVec 9) : StopBit.Statement (.cmpleuRI d s1 i) := encCmpRI_stop _ _ _ _
theorem StopBit.cmpleuBI (b : BrNum) (s1 : RegNum) (i : BitVec 9) : StopBit.Statement (.cmpleuBI b s1 i) := encCmpBI_stop _ _ _ _
theorem StopBit.cmpltRR (d : RegNum) (s1 : RegNum) (s2 : RegNum) : StopBit.Statement (.cmpltRR d s1 s2) := encCmpRR_stop _ _ _ _
theorem StopBit.cmpltBR (b : BrNum) (s1 : RegNum) (s2 : RegNum) : StopBit.Statement (.cmpltBR b s1 s2) := encCmpBR_stop _ _ _ _
theorem StopBit.cmpltRI (d : RegNum) (s1 : RegNum) (i : BitVec 9) : StopBit.Statement (.cmpltRI d s1 i) := encCmpRI_stop _ _ _ _
theorem StopBit.cmpltBI (b : BrNum) (s1 : RegNum) (i : BitVec 9) : StopBit.Statement (.cmpltBI b s1 i) := encCmpBI_stop _ _ _ _
theorem StopBit.cmpltuRR (d : RegNum) (s1 : RegNum) (s2 : RegNum) : StopBit.Statement (.cmpltuRR d s1 s2) := encCmpRR_stop _ _ _ _
theorem StopBit.cmpltuBR (b : BrNum) (s1 : RegNum) (s2 : RegNum) : StopBit.Statement (.cmpltuBR b s1 s2) := encCmpBR_stop _ _ _ _
theorem StopBit.cmpltuRI (d : RegNum) (s1 : RegNum) (i : BitVec 9) : StopBit.Statement (.cmpltuRI d s1 i) := encCmpRI_stop _ _ _ _
theorem StopBit.cmpltuBI (b : BrNum) (s1 : RegNum) (i : BitVec 9) : StopBit.Statement (.cmpltuBI b s1 i) := encCmpBI_stop _ _ _ _
theorem StopBit.andlRR (d : RegNum) (s1 : RegNum) (s2 : RegNum) : StopBit.Statement (.andlRR d s1 s2) := encCmpRR_stop _ _ _ _
theorem StopBit.andlBR (b : BrNum) (s1 : RegNum) (s2 : RegNum) : StopBit.Statement (.andlBR b s1 s2) := encCmpBR_stop _ _ _ _
theorem StopBit.andlRI (d : RegNum) (s1 : RegNum) (i : BitVec 9) : StopBit.Statement (.andlRI d s1 i) := encCmpRI_stop _ _ _ _
theorem StopBit.andlBI (b : BrNum) (s1 : RegNum) (i : BitVec 9) : StopBit.Statement (.andlBI b s1 i) := encCmpBI_stop _ _ _ _
theorem StopBit.nandlRR (d : RegNum) (s1 : RegNum) (s2 : RegNum) : StopBit.Statement (.nandlRR d s1 s2) := encCmpRR_stop _ _ _ _
theorem StopBit.nandlBR (b : BrNum) (s1 : RegNum) (s2 : RegNum) : StopBit.Statement (.nandlBR b s1 s2) := encCmpBR_stop _ _ _ _
theorem StopBit.nandlRI (d : RegNum) (s1 : RegNum) (i : BitVec 9) : StopBit.Statement (.nandlRI d s1 i) := encCmpRI_stop _ _ _ _
theorem StopBit.nandlBI (b : BrNum) (s1 : RegNum) (i : BitVec 9) : StopBit.Statement (.nandlBI b s1 i) := encCmpBI_stop _ _ _ _
theorem StopBit.orlRR (d : RegNum) (s1 : RegNum) (s2 : RegNum) : StopBit.Statement (.orlRR d s1 s2) := encCmpRR_stop _ _ _ _
theorem StopBit.orlBR (b : BrNum) (s1 : RegNum) (s2 : RegNum) : StopBit.Statement (.orlBR b s1 s2) := encCmpBR_stop _ _ _ _
theorem StopBit.orlRI (d : RegNum) (s1 : RegNum) (i : BitVec 9) : StopBit.Statement (.orlRI d s1 i) := encCmpRI_stop _ _ _ _
theorem StopBit.orlBI (b : BrNum) (s1 : RegNum) (i : BitVec 9) : StopBit.Statement (.orlBI b s1 i) := encCmpBI_stop _ _ _ _
theorem StopBit.norlRR (d : RegNum) (s1 : RegNum) (s2 : RegNum) : StopBit.Statement (.norlRR d s1 s2) := encCmpRR_stop _ _ _ _
theorem StopBit.norlBR (b : BrNum) (s1 : RegNum) (s2 : RegNum) : StopBit.Statement (.norlBR b s1 s2) := encCmpBR_stop _ _ _ _
theorem StopBit.norlRI (d : RegNum) (s1 : RegNum) (i : BitVec 9) : StopBit.Statement (.norlRI d s1 i) := encCmpRI_stop _ _ _ _
theorem StopBit.norlBI (b : BrNum) (s1 : RegNum) (i : BitVec 9) : StopBit.Statement (.norlBI b s1 i) := encCmpBI_stop _ _ _ _
theorem StopBit.mul32R (d : RegNum) (s1 : RegNum) (s2 : RegNum) : StopBit.Statement (.mul32R d s1 s2) := encMul64R_stop _ _ _ _
theorem StopBit.mul32I (d : RegNum) (s1 : RegNum) (i : BitVec 9) : StopBit.Statement (.mul32I d s1 i) := encMul64I_stop _ _ _ _
theorem StopBit.mul64hR (d : RegNum) (s1 : RegNum) (s2 : RegNum) : StopBit.Statement (.mul64hR d s1 s2) := encMul64R_stop _ _ _ _
theorem StopBit.mul64hI (d : RegNum) (s1 : RegNum) (i : BitVec 9) : StopBit.Statement (.mul64hI d s1 i) := encMul64I_stop _ _ _ _
theorem StopBit.mul64huR (d : RegNum) (s1 : RegNum) (s2 : RegNum) : StopBit.Statement (.mul64huR d s1 s2) := encMul64R_stop _ _ _ _
theorem StopBit.mul64huI (d : RegNum) (s1 : RegNum) (i : BitVec 9) : StopBit.Statement (.mul64huI d s1 i) := encMul64I_stop _ _ _ _
theorem StopBit.mulfracR (d : RegNum) (s1 : RegNum) (s2 : RegNum) : StopBit.Statement (.mulfracR d s1 s2) := encMul64R_stop _ _ _ _
theorem StopBit.mulfracI (d : RegNum) (s1 : RegNum) (i : BitVec 9) : StopBit.Statement (.mulfracI d s1 i) := encMul64I_stop _ _ _ _
theorem StopBit.slctR (d : RegNum) (c : BrNum) (s1 : RegNum) (s2 : RegNum) : StopBit.Statement (.slctR d c s1 s2) := encSelectR_stop _ _ _ _ _
theorem StopBit.slctI (d : RegNum) (c : BrNum) (s1 : RegNum) (i : BitVec 9) : StopBit.Statement (.slctI d c s1 i) := encSelectI_stop _ _ _ _ _
theorem StopBit.slctfR (d : RegNum) (c : BrNum) (s1 : RegNum) (s2 : RegNum) : StopBit.Statement (.slctfR d c s1 s2) := encSelectR_stop _ _ _ _ _
theorem StopBit.slctfI (d : RegNum) (c : BrNum) (s1 : RegNum) (i : BitVec 9) : StopBit.Statement (.slctfI d c s1 i) := encSelectI_stop _ _ _ _ _
theorem StopBit.addcg (d : RegNum) (b : BrNum) (c : BrNum) (s1 : RegNum) (s2 : RegNum) : StopBit.Statement (.addcg d b c s1 s2) := encCgen_stop _ _ _ _ _ _
theorem StopBit.divs (d : RegNum) (b : BrNum) (c : BrNum) (s1 : RegNum) (s2 : RegNum) : StopBit.Statement (.divs d b c s1 s2) := encCgen_stop _ _ _ _ _ _
theorem StopBit.imml (v : BitVec 23) : StopBit.Statement (.imml v) := encImm_stop _ _
theorem StopBit.immr (v : BitVec 23) : StopBit.Statement (.immr v) := encImm_stop _ _
theorem StopBit.prgins : StopBit.Statement (.prgins) := encSystem_stop _ _
theorem StopBit.sbrk (n : BitVec 21) : StopBit.Statement (.sbrk n) := encSystem_stop _ _
theorem StopBit.syscall (n : BitVec 21) : StopBit.Statement (.syscall n) := encSystem_stop _ _
theorem StopBit.breakOp : StopBit.Statement (.breakOp) := encSystem_stop _ _
theorem StopBit.ldw (d : RegNum) (s1 : RegNum) (i : BitVec 9) : StopBit.Statement (.ldw d s1 i) := encMemory_stop _ _ _ _
theorem StopBit.ldwD (d : RegNum) (s1 : RegNum) (i : BitVec 9) : StopBit.Statement (.ldwD d s1 i) := encMemory_stop _ _ _ _
theorem StopBit.ldh (d : RegNum) (s1 : RegNum) (i : BitVec 9) : StopBit.Statement (.ldh d s1 i) := encMemory_stop _ _ _ _
theorem StopBit.ldhD (d : RegNum) (s1 : RegNum) (i : BitVec 9) : StopBit.Statement (.ldhD d s1 i) := encMemory_stop _ _ _ _
theorem StopBit.ldhu (d : RegNum) (s1 : RegNum) (i : BitVec 9) : StopBit.Statement (.ldhu d s1 i) := encMemory_stop _ _ _ _
theorem StopBit.ldhuD (d : RegNum) (s1 : RegNum) (i : BitVec 9) : StopBit.Statement (.ldhuD d s1 i) := encMemory_stop _ _ _ _
theorem StopBit.ldb (d : RegNum) (s1 : RegNum) (i : BitVec 9) : StopBit.Statement (.ldb d s1 i) := encMemory_stop _ _ _ _
theorem StopBit.ldbD (d : RegNum) (s1 : RegNum) (i : BitVec 9) : StopBit.Statement (.ldbD d s1 i) := encMemory_stop _ _ _ _
theorem StopBit.ldbu (d : RegNum) (s1 : RegNum) (i : BitVec 9) : StopBit.Statement (.ldbu d s1 i) := encMemory_stop _ _ _ _
theorem StopBit.ldbuD (d : RegNum) (s1 : RegNum) (i : BitVec 9) : StopBit.Statement (.ldbuD d s1 i) := encMemory_stop _ _ _ _
theorem StopBit.stw (s1 : RegNum) (i : BitVec 9) (s2 : RegNum) : StopBit.Statement (.stw s1 i s2) := encMemory_stop _ _ _ _
theorem StopBit.sth (s1 : RegNum) (i : BitVec 9) (s2 : RegNum) : StopBit.Statement (.sth s1 i s2) := encMemory_stop _ _ _ _
theorem StopBit.stb (s1 : RegNum) (i : BitVec 9) (s2 : RegNum) : StopBit.Statement (.stb s1 i s2) := encMemory_stop _ _ _ _
theorem StopBit.pft (s1 : RegNum) (i : BitVec 9) : StopBit.Statement (.pft s1 i) := encMemory_stop _ _ _ _
theorem StopBit.prgadd (s1 : RegNum) (i : BitVec 9) : StopBit.Statement (.prgadd s1 i) := encMemory_stop _ _ _ _
theorem StopBit.prgset (s1 : RegNum) (i : BitVec 9) : StopBit.Statement (.prgset s1 i) := encMemory_stop _ _ _ _
theorem StopBit.prginspg (s1 : RegNum) (i : BitVec 9) : StopBit.Statement (.prginspg s1 i) := encMemory_stop _ _ _ _
theorem StopBit.sync : StopBit.Statement (.sync) := encMemory_stop _ _ _ _
theorem StopBit.pswset (s2 : RegNum) : StopBit.Statement (.pswset s2) := encMemory_stop _ _ _ _
theorem StopBit.pswclr (s2 : RegNum) : StopBit.Statement (.pswclr s2) := encMemory_stop _ _ _ _
theorem StopBit.call (t : BitVec 23) : StopBit.Statement (.call t) := encCall_stop _ _ _
theorem StopBit.callLink : StopBit.Statement (.callLink) := encCall_stop _ _ _
theorem StopBit.goto (t : BitVec 23) : StopBit.Statement (.goto t) := encCall_stop _ _ _
theorem StopBit.gotoLink : StopBit.Statement (.gotoLink) := encCall_stop _ _ _
theorem StopBit.rfi : StopBit.Statement (.rfi) := encCall_stop _ _ _
theorem StopBit.br (c : BrNum) (t : BitVec 23) : StopBit.Statement (.br c t) := encBranch_stop _ _ _
theorem StopBit.brf (c : BrNum) (t : BitVec 23) : StopBit.Statement (.brf c t) := encBranch_stop _ _ _

end Sys2Proof.Laws
end

