-- ==== Sys2Proof/Tests/Slice0.lean ====
section
/-! SUPPORT. The model's own tests. Expected values come from the encodings of 30_encoding.md and
spec/opcode_table.json and from the vectors of 95_test_vectors.md and 96_test_vectors_system.md, whose numbers
(T...) stand in the comments. The last part shows a concrete state that meets the hypotheses of each obligation. -/

namespace Sys2Proof.Tests

open Sys2Proof Sys2Proof.Machine

/-! ### Helpers -/

/-- Each word decodes to its operation, and the operation encodes to the word. -/
def decodesTo (rows : List (Word × Instr)) : Bool :=
  rows.all fun x => decodeSyllable x.1 == .ok x.2 && encodeSyllable true x.2 == x.1

/-- What `f` says of the state after one step. -/
def after {α : Type} (s : State) (f : State → α) : Option α :=
  match step s with
  | .next t => some (f t)
  | .fault _ => none
  | .refused _ => none

/-- `s` with general registers set. -/
def withRegs (s : State) (regs : List (RegNum × Word)) : State := regs.foldl (fun t x => t.setGpr x.1 x.2) s

/-- `s` with the words of a bundle from its PC on. -/
def withWords (s : State) (ws : List Word) : State :=
  ws.zipIdx.foldl (fun t x => t.placeWord (t.pc + BitVec.ofNat 32 (4 * x.2)) x.1) s

/-- After reset, with registers set and one instruction to run. -/
def start (regs : List (RegNum × Word)) (w : Nat) : State := (withRegs State.reset regs).withFetchWord 32 w

/-- R3 after one step, for a word, R1 and R2. -/
def resultsAre (rows : List (Nat × Word × Word × Word)) : Bool :=
  rows.all fun x => after (start [(1, x.2.1), (2, x.2.2.1)] x.1) (fun t => t.gpr 3) == some x.2.2.2

/-- After reset, in the byte order given, with HANDLER_PC 0x4000 and the four bytes 80 91 A2 B3 at 0x1000. -/
def bytesAt1000 (bigEndian : Bool) : State :=
  { State.reset with
    cfg := { State.reset.cfg with bigEndian := bigEndian }
    trap := { State.reset.trap with handlerPc := 0x4000#32 }
    mem := (((State.reset.mem.write 0x1000 0x80#8).write 0x1001 0x91#8).write 0x1002 0xA2#8).write 0x1003 0xB3#8 }

/-- R3 after one step from `s` with R1 = 0x1000, for a word. -/
def loadsAre (s : State) (rows : List (Nat × Word)) : Bool :=
  rows.all fun x => after ((withRegs s [(1, 0x1000#32)]).withFetchWord 32 x.1) (fun t => t.gpr 3) == some x.2

/-- The cause, EXADDRESS and PC after one step. -/
def trapOf (t : State) : BitVec 5 × Word × Word := (t.trap.excauseno, t.trap.exaddress, t.pc)

/-- The flaw of the bundle of these words at address `pc`, if it is illegal. -/
def flawOf (pc : Word) (ws : List Word) : Option BundleFlaw :=
  match decodeBundle pc ws with
  | .error f => some f
  | .ok _ => none

/-! ### Well-formedness, legality and decoding -/

theorem test_wf_refuses_link_destination :
    Instr.wf (.mullR 63#6 1#6 2#6) = false ∧ Instr.wf (.ldb 63#6 1#6 0#9) = false
    ∧ Instr.wf (.mullR 62#6 1#6 2#6) = true ∧ Instr.wf (.ldw 63#6 1#6 0#9) = true := by decide

/-- The checks of a single syllable: T541, T542, T543, and sbrk without its stop bit (30 R223). -/
theorem test_decode_rejects :
    decodeSyllable 0xC0000000#32 = .reject .reservedBit30 ∧ decodeSyllable 0x89C050C1#32 = .reject .unassigned
    ∧ decodeSyllable 0xA8000001#32 = .reject .unusedField ∧ decodeSyllable 0x1FA00005#32 = .reject .sbrkWithoutStop
    ∧ decodeBytes false [0x81#8, 0x30#8, 0x00#8] = (.reject .tooShort, [0x81#8, 0x30#8, 0x00#8]) := by decide

/-- T539, T541, T519, 30 R220, R221. -/
theorem test_bundle_flaws_of_place :
    flawOf 0#32 [0#32, 0#32, 0#32, 0#32] = some .noStop
    ∧ flawOf 0#32 [0xC0000000#32] = some (.invalidSyllable .reservedBit30)
    ∧ flawOf 0#32 [0x00000000#32, 0xB8800003#32] = some .notFirst
    ∧ flawOf 0#32 [0x82A03081#32] = some .multiplyAtEvenWord ∧ flawOf 4#32 [0x82A03081#32] = none
    ∧ flawOf 4#32 [0x15891A2B#32, 0x880780C1#32] = some .extensionAtOddWord
    ∧ flawOf 0#32 [0x15891A2B#32, 0x880780C1#32] = none := by decide

/-- 30 R222; T446, T547, T549, T447, T534; two writes of R0 are legal (T548). -/
theorem test_bundle_flaws_of_company :
    flawOf 0#32 [0x95891A2B#32] = some .orphanExtension
    ∧ flawOf 0#32 [0x15800001#32, 0x080780C1#32, 0x95000001#32] = some .twoExtensions
    ∧ flawOf 0#32 [0x200000C1#32, 0xA0004101#32] = some .twoLoadStores
    ∧ flawOf 0#32 [0x080010C1#32, 0x880010C2#32] = some .duplicateDestination
    ∧ flawOf 0#32 [0x0E001041#32, 0x8E201042#32] = some .duplicateBranchDestination
    ∧ flawOf 0#32 [0xA3000FC1#32] = some .linkDestination
    ∧ flawOf 0#32 [0x1FC00000#32, 0x80000000#32] = some .notAlone
    ∧ flawOf 0#32 [0x08001001#32, 0x88001002#32] = none := by decide

/-- Every word of the opcode table is the first instruction after reset once it is placed: an extension needs a
neighbour, a multiply an odd word (30 R220 to R222). -/
theorem test_placed_instruction_is_fetched :
    (start [] 0x15891A2B).fetchBundle = .ok [0x15891A2B#32, 0x88000000#32]
    ∧ (start [] 0x15091A2B).fetchBundle = .ok [0x08000000#32, 0x95091A2B#32]
    ∧ (start [] 0x02A03081).fetchBundle = .ok [0x82A03081#32] ∧ (start [] 0x02A03081).pc = 4#32 := by decide

/-! One word per row of the opcode table: DEST 37, SRC1 22, SRC2 41, branch destination 5, branch source 6, ISRC2 0x1A5,
IMM and BTARG 0x5ABCDE, SBRKNUM 0x15ABCD, the stop bit set. -/

theorem test_decode_integer_1 : decodesTo
   [(0x80025A56#32, .addR 37#6 22#6 41#6), (0x881A5956#32, .addI 37#6 22#6 421#9),
    (0x80225A56#32, .subR 37#6 22#6 41#6), (0x883A5956#32, .subI 37#6 22#6 421#9),
    (0x80425A56#32, .shlR 37#6 22#6 41#6), (0x885A5956#32, .shlI 37#6 22#6 421#9),
    (0x80625A56#32, .shrR 37#6 22#6 41#6), (0x887A5956#32, .shrI 37#6 22#6 421#9),
    (0x80825A56#32, .shruR 37#6 22#6 41#6), (0x889A5956#32, .shruI 37#6 22#6 421#9),
    (0x80A25A56#32, .sh1addR 37#6 22#6 41#6), (0x88BA5956#32, .sh1addI 37#6 22#6 421#9),
    (0x80C25A56#32, .sh2addR 37#6 22#6 41#6), (0x88DA5956#32, .sh2addI 37#6 22#6 421#9),
    (0x80E25A56#32, .sh3addR 37#6 22#6 41#6), (0x88FA5956#32, .sh3addI 37#6 22#6 421#9),
    (0x81025A56#32, .sh4addR 37#6 22#6 41#6), (0x891A5956#32, .sh4addI 37#6 22#6 421#9)] = true := by decide

theorem test_decode_integer_2 : decodesTo
   [(0x81225A56#32, .andR 37#6 22#6 41#6), (0x893A5956#32, .andI 37#6 22#6 421#9),
    (0x81425A56#32, .andcR 37#6 22#6 41#6), (0x895A5956#32, .andcI 37#6 22#6 421#9),
    (0x81625A56#32, .orR 37#6 22#6 41#6), (0x897A5956#32, .orI 37#6 22#6 421#9),
    (0x81825A56#32, .orcR 37#6 22#6 41#6), (0x899A5956#32, .orcI 37#6 22#6 421#9),
    (0x81A25A56#32, .xorR 37#6 22#6 41#6), (0x89BA5956#32, .xorI 37#6 22#6 421#9),
    (0x82025A56#32, .maxR 37#6 22#6 41#6), (0x8A1A5956#32, .maxI 37#6 22#6 421#9),
    (0x82225A56#32, .maxuR 37#6 22#6 41#6), (0x8A3A5956#32, .maxuI 37#6 22#6 421#9),
    (0x82425A56#32, .minR 37#6 22#6 41#6), (0x8A5A5956#32, .minI 37#6 22#6 421#9),
    (0x82625A56#32, .minuR 37#6 22#6 41#6), (0x8A7A5956#32, .minuI 37#6 22#6 421#9)] = true := by decide

theorem test_decode_integer_3 : decodesTo
   [(0x89C00956#32, .sxtb 37#6 22#6), (0x89C01956#32, .sxth 37#6 22#6), (0x89C02956#32, .bswap 37#6 22#6),
    (0x89C03956#32, .zxth 37#6 22#6), (0x89C04956#32, .clz 37#6 22#6), (0x81E25A56#32, .mullhusR 37#6 22#6 41#6),
    (0x89FA5956#32, .mullhusI 37#6 22#6 421#9), (0x82825A56#32, .mulhhsR 37#6 22#6 41#6),
    (0x8A9A5956#32, .mulhhsI 37#6 22#6 421#9), (0x82A25A56#32, .mullR 37#6 22#6 41#6),
    (0x8ABA5956#32, .mullI 37#6 22#6 421#9), (0x82C25A56#32, .mulluR 37#6 22#6 41#6),
    (0x8ADA5956#32, .mulluI 37#6 22#6 421#9), (0x82E25A56#32, .mulhR 37#6 22#6 41#6),
    (0x8AFA5956#32, .mulhI 37#6 22#6 421#9), (0x83025A56#32, .mulhuR 37#6 22#6 41#6),
    (0x8B1A5956#32, .mulhuI 37#6 22#6 421#9), (0x83225A56#32, .mulllR 37#6 22#6 41#6)] = true := by decide

theorem test_decode_integer_4 : decodesTo
   [(0x8B3A5956#32, .mulllI 37#6 22#6 421#9), (0x83425A56#32, .mullluR 37#6 22#6 41#6),
    (0x8B5A5956#32, .mullluI 37#6 22#6 421#9), (0x83625A56#32, .mullhR 37#6 22#6 41#6),
    (0x8B7A5956#32, .mullhI 37#6 22#6 421#9), (0x83825A56#32, .mullhuR 37#6 22#6 41#6),
    (0x8B9A5956#32, .mullhuI 37#6 22#6 421#9), (0x83A25A56#32, .mulhhR 37#6 22#6 41#6),
    (0x8BBA5956#32, .mulhhI 37#6 22#6 421#9), (0x83C25A56#32, .mulhhuR 37#6 22#6 41#6),
    (0x8BDA5956#32, .mulhhuI 37#6 22#6 421#9), (0x83E25A56#32, .mulhsR 37#6 22#6 41#6),
    (0x8BFA5956#32, .mulhsI 37#6 22#6 421#9)] = true := by decide

theorem test_decode_mul64 : decodesTo
   [(0x85C25A56#32, .mul32R 37#6 22#6 41#6), (0x8DDA5956#32, .mul32I 37#6 22#6 421#9),
    (0x85E25A56#32, .mul64hR 37#6 22#6 41#6), (0x8DFA5956#32, .mul64hI 37#6 22#6 421#9),
    (0x87C25A56#32, .mul64huR 37#6 22#6 41#6), (0x8FDA5956#32, .mul64huI 37#6 22#6 421#9),
    (0x87E25A56#32, .mulfracR 37#6 22#6 41#6), (0x8FFA5956#32, .mulfracI 37#6 22#6 421#9)] = true := by decide

theorem test_decode_compare_register_1 : decodesTo
   [(0x84025A56#32, .cmpeqRR 37#6 22#6 41#6), (0x86140A56#32, .cmpeqBR 5#3 22#6 41#6),
    (0x84225A56#32, .cmpneRR 37#6 22#6 41#6), (0x86340A56#32, .cmpneBR 5#3 22#6 41#6),
    (0x84425A56#32, .cmpgeRR 37#6 22#6 41#6), (0x86540A56#32, .cmpgeBR 5#3 22#6 41#6),
    (0x84625A56#32, .cmpgeuRR 37#6 22#6 41#6), (0x86740A56#32, .cmpgeuBR 5#3 22#6 41#6),
    (0x84825A56#32, .cmpgtRR 37#6 22#6 41#6), (0x86940A56#32, .cmpgtBR 5#3 22#6 41#6),
    (0x84A25A56#32, .cmpgtuRR 37#6 22#6 41#6), (0x86B40A56#32, .cmpgtuBR 5#3 22#6 41#6),
    (0x84C25A56#32, .cmpleRR 37#6 22#6 41#6), (0x86D40A56#32, .cmpleBR 5#3 22#6 41#6),
    (0x84E25A56#32, .cmpleuRR 37#6 22#6 41#6), (0x86F40A56#32, .cmpleuBR 5#3 22#6 41#6),
    (0x85025A56#32, .cmpltRR 37#6 22#6 41#6), (0x87140A56#32, .cmpltBR 5#3 22#6 41#6)] = true := by decide

theorem test_decode_compare_register_2 : decodesTo
   [(0x85225A56#32, .cmpltuRR 37#6 22#6 41#6), (0x87340A56#32, .cmpltuBR 5#3 22#6 41#6),
    (0x85425A56#32, .andlRR 37#6 22#6 41#6), (0x87540A56#32, .andlBR 5#3 22#6 41#6),
    (0x85625A56#32, .nandlRR 37#6 22#6 41#6), (0x87740A56#32, .nandlBR 5#3 22#6 41#6),
    (0x85825A56#32, .orlRR 37#6 22#6 41#6), (0x87940A56#32, .orlBR 5#3 22#6 41#6),
    (0x85A25A56#32, .norlRR 37#6 22#6 41#6), (0x87B40A56#32, .norlBR 5#3 22#6 41#6)] = true := by decide

theorem test_decode_compare_immediate_1 : decodesTo
   [(0x8C1A5956#32, .cmpeqRI 37#6 22#6 421#9), (0x8E1A5156#32, .cmpeqBI 5#3 22#6 421#9),
    (0x8C3A5956#32, .cmpneRI 37#6 22#6 421#9), (0x8E3A5156#32, .cmpneBI 5#3 22#6 421#9),
    (0x8C5A5956#32, .cmpgeRI 37#6 22#6 421#9), (0x8E5A5156#32, .cmpgeBI 5#3 22#6 421#9),
    (0x8C7A5956#32, .cmpgeuRI 37#6 22#6 421#9), (0x8E7A5156#32, .cmpgeuBI 5#3 22#6 421#9),
    (0x8C9A5956#32, .cmpgtRI 37#6 22#6 421#9), (0x8E9A5156#32, .cmpgtBI 5#3 22#6 421#9),
    (0x8CBA5956#32, .cmpgtuRI 37#6 22#6 421#9), (0x8EBA5156#32, .cmpgtuBI 5#3 22#6 421#9),
    (0x8CDA5956#32, .cmpleRI 37#6 22#6 421#9), (0x8EDA5156#32, .cmpleBI 5#3 22#6 421#9),
    (0x8CFA5956#32, .cmpleuRI 37#6 22#6 421#9), (0x8EFA5156#32, .cmpleuBI 5#3 22#6 421#9),
    (0x8D1A5956#32, .cmpltRI 37#6 22#6 421#9), (0x8F1A5156#32, .cmpltBI 5#3 22#6 421#9)] = true := by decide

theorem test_decode_compare_immediate_2 : decodesTo
   [(0x8D3A5956#32, .cmpltuRI 37#6 22#6 421#9), (0x8F3A5156#32, .cmpltuBI 5#3 22#6 421#9),
    (0x8D5A5956#32, .andlRI 37#6 22#6 421#9), (0x8F5A5156#32, .andlBI 5#3 22#6 421#9),
    (0x8D7A5956#32, .nandlRI 37#6 22#6 421#9), (0x8F7A5156#32, .nandlBI 5#3 22#6 421#9),
    (0x8D9A5956#32, .orlRI 37#6 22#6 421#9), (0x8F9A5156#32, .orlBI 5#3 22#6 421#9),
    (0x8DBA5956#32, .norlRI 37#6 22#6 421#9), (0x8FBA5156#32, .norlBI 5#3 22#6 421#9)] = true := by decide

theorem test_decode_others_1 : decodesTo
   [(0x90C25A56#32, .slctR 37#6 6#3 22#6 41#6), (0x98DA5956#32, .slctI 37#6 6#3 22#6 421#9),
    (0x91C25A56#32, .slctfR 37#6 6#3 22#6 41#6), (0x99DA5956#32, .slctfI 37#6 6#3 22#6 421#9),
    (0x92D65A56#32, .addcg 37#6 5#3 6#3 22#6 41#6), (0x94D65A56#32, .divs 37#6 5#3 6#3 22#6 41#6),
    (0x955ABCDE#32, .imml 5946590#23), (0x95DABCDE#32, .immr 5946590#23), (0x9F800000#32, .prgins),
    (0x9FB5ABCD#32, .sbrk 1420237#21), (0x9FD5ABCD#32, .syscall 1420237#21), (0x9FE00000#32, .breakOp),
    (0xA01A5956#32, .ldw 37#6 22#6 421#9), (0xA09A5956#32, .ldwD 37#6 22#6 421#9),
    (0xA11A5956#32, .ldh 37#6 22#6 421#9), (0xA19A5956#32, .ldhD 37#6 22#6 421#9),
    (0xA21A5956#32, .ldhu 37#6 22#6 421#9), (0xA29A5956#32, .ldhuD 37#6 22#6 421#9)] = true := by decide

theorem test_decode_others_2 : decodesTo
   [(0xA31A5956#32, .ldb 37#6 22#6 421#9), (0xA39A5956#32, .ldbD 37#6 22#6 421#9),
    (0xA41A5956#32, .ldbu 37#6 22#6 421#9), (0xA49A5956#32, .ldbuD 37#6 22#6 421#9),
    (0xA51A5A56#32, .stw 22#6 421#9 41#6), (0xA59A5A56#32, .sth 22#6 421#9 41#6),
    (0xA61A5A56#32, .stb 22#6 421#9 41#6), (0xA69A5016#32, .pft 22#6 421#9), (0xA71A5016#32, .prgadd 22#6 421#9),
    (0xA79A5016#32, .prgset 22#6 421#9), (0xA89A5016#32, .prginspg 22#6 421#9), (0xA8000000#32, .sync),
    (0xA9000A40#32, .pswset 41#6), (0xA9800A40#32, .pswclr 41#6), (0xB05ABCDE#32, .call 5946590#23),
    (0xB0800000#32, .callLink), (0xB15ABCDE#32, .goto 5946590#23), (0xB1800000#32, .gotoLink)] = true := by decide

theorem test_decode_others_3 : decodesTo
   [(0xB2000000#32, .rfi), (0xBB5ABCDE#32, .br 6#3 5946590#23), (0xBF5ABCDE#32, .brf 6#3 5946590#23)] = true := by decide

/-! ### Results -/

/-- Vectors of spec/95 section 2.1: word, R1, R2, R3 after. -/
theorem test_integer_results_1 : resultsAre
   [(0x80003081, 0x5#32, 0x7#32, 0xC#32), (0x80003081, 0x7FFFFFFF#32, 0x1#32, 0x80000000#32),
    (0x80203081, 0x5#32, 0x7#32, 0x2#32), (0x80203081, 0x7#32, 0x5#32, 0xFFFFFFFE#32),
    (0x884040C1, 0xFFFFFFF#32, 0x0#32, 0xFFFFFFF0#32), (0x80403081, 0x80000001#32, 0x0#32, 0x80000001#32),
    (0x886040C1, 0x80000000#32, 0x0#32, 0xF8000000#32), (0x80603081, 0x80000000#32, 0x1F#32, 0xFFFFFFFF#32),
    (0x888040C1, 0x80000000#32, 0x0#32, 0x8000000#32), (0x80803081, 0x80000000#32, 0x1F#32, 0x1#32),
    (0x80A03081, 0x3#32, 0xA#32, 0x10#32), (0x88A050C1, 0x80000001#32, 0x0#32, 0x7#32),
    (0x80C03081, 0x3#32, 0xA#32, 0x16#32), (0x80E03081, 0x3#32, 0xA#32, 0x22#32),
    (0x81003081, 0x3#32, 0xA#32, 0x3A#32), (0x81003081, 0x10000001#32, 0xFFFFFFFF#32, 0xF#32),
    (0x81203081, 0xFF00FF00#32, 0xFF00FF0#32, 0xF000F00#32), (0x892FF0C1, 0x12345678#32, 0x0#32, 0x78#32),
    (0x81403081, 0xFFFF#32, 0x12345678#32, 0x12340000#32), (0x8940F0C1, 0x5#32, 0x0#32, 0xA#32)] = true := by decide

/-- Vectors of spec/95 section 2.1. -/
theorem test_integer_results_2 : resultsAre
   [(0x81603081, 0xF0#32, 0xF#32, 0xFF#32), (0x81803081, 0xFFFF#32, 0xF#32, 0xFFFF000F#32),
    (0x898000C1, 0xFFFF#32, 0x0#32, 0xFFFF0000#32), (0x81A03081, 0xFF00FF00#32, 0xFF00FF0#32, 0xF0F0F0F0#32),
    (0x89BFF0C1, 0x12345678#32, 0x0#32, 0xEDCBA987#32), (0x82003081, 0xFFFFFFFF#32, 0x1#32, 0x1#32),
    (0x82003081, 0x80000000#32, 0x7FFFFFFF#32, 0x7FFFFFFF#32), (0x82203081, 0xFFFFFFFF#32, 0x1#32, 0xFFFFFFFF#32),
    (0x8A3FF0C1, 0x5#32, 0x0#32, 0xFFFFFFFF#32), (0x82403081, 0xFFFFFFFF#32, 0x1#32, 0xFFFFFFFF#32),
    (0x82403081, 0x80000000#32, 0x7FFFFFFF#32, 0x80000000#32), (0x82603081, 0xFFFFFFFF#32, 0x1#32, 0x1#32),
    (0x8A6640C1, 0x80000000#32, 0x0#32, 0x64#32), (0x89C000C1, 0x12345680#32, 0x0#32, 0xFFFFFF80#32),
    (0x89C000C1, 0x17F#32, 0x0#32, 0x7F#32), (0x89C010C1, 0x12348000#32, 0x0#32, 0xFFFF8000#32),
    (0x89C010C1, 0x12347FFF#32, 0x0#32, 0x7FFF#32), (0x89C020C1, 0xAABBCCDD#32, 0x0#32, 0xDDCCBBAA#32),
    (0x89C030C1, 0x12348000#32, 0x0#32, 0x8000#32), (0x89C040C1, 0x10000#32, 0x0#32, 0xF#32),
    (0x89C040C1, 0x0#32, 0x0#32, 0x20#32)] = true := by decide

/-- Vectors of spec/95 section 2.3. -/
theorem test_multiply_results_1 : resultsAre
   [(0x82A03081, 0xFFFF8003#32, 0x80027FFF#32, 0xC001FFFD#32), (0x8ABFF0C1, 0x12345#32, 0x0#32, 0xFFFEDCBB#32),
    (0x82C03081, 0xFFFF8003#32, 0x80027FFF#32, 0xC001FFFD#32), (0x8ADFF0C1, 0x12345#32, 0x0#32, 0x2343DCBB#32),
    (0x82E03081, 0xFFFF8003#32, 0x80027FFF#32, 0x3FFD8006#32), (0x8AFFF0C1, 0x12345#32, 0x0#32, 0xFFFEDCBB#32),
    (0x83003081, 0xFFFF8003#32, 0x80027FFF#32, 0xC0008006#32), (0x8B1FF0C1, 0x12345#32, 0x0#32, 0x2343DCBB#32),
    (0x83203081, 0xFFFF8003#32, 0x80027FFF#32, 0xC001FFFD#32), (0x8B3FF0C1, 0x12345#32, 0x0#32, 0xFFFFDCBB#32),
    (0x83403081, 0xFFFF8003#32, 0x80027FFF#32, 0x4000FFFD#32), (0x8B5FF0C1, 0x12345#32, 0x0#32, 0x2344DCBB#32),
    (0x83603081, 0xFFFF8003#32, 0x80027FFF#32, 0x3FFD8006#32), (0x8B7FF0C1, 0x12345#32, 0x0#32, 0xFFFFDCBB#32),
    (0x83803081, 0xFFFF8003#32, 0x80027FFF#32, 0x40028006#32), (0x8B9FF0C1, 0x12345#32, 0x0#32, 0x2344DCBB#32),
    (0x83A03081, 0xFFFF8003#32, 0x80027FFF#32, 0x7FFE#32)] = true := by decide

/-- Vectors of spec/95 section 2.3. -/
theorem test_multiply_results_2 : resultsAre
   [(0x8BBFF0C1, 0x12345#32, 0x0#32, 0xFFFFFFFF#32), (0x83C03081, 0xFFFF8003#32, 0x80027FFF#32, 0x80017FFE#32),
    (0x8BDFF0C1, 0x12345#32, 0x0#32, 0xFFFF#32), (0x83E03081, 0xFFFF8003#32, 0x80027FFF#32, 0x80060000#32),
    (0x8BFFF0C1, 0x12345#32, 0x0#32, 0xDCBB0000#32), (0x82803081, 0xFFFF8003#32, 0x80027FFF#32, 0x3FFD#32),
    (0x8A9FF0C1, 0x12345#32, 0x0#32, 0xFFFFFFFE#32), (0x81E03081, 0xFFFF8003#32, 0x80027FFF#32, 0xFFFFFFFF#32),
    (0x89FFF0C1, 0x12345#32, 0x0#32, 0x1#32), (0x85C03081, 0xFFFF8003#32, 0x80027FFF#32, 0x4007FFFD#32),
    (0x8DDFF0C1, 0x12345#32, 0x0#32, 0xFFFEDCBB#32), (0x85E03081, 0xFFFF8003#32, 0x80027FFF#32, 0x3FFD#32),
    (0x8DFFF0C1, 0x12345#32, 0x0#32, 0xFFFFFFFF#32), (0x87C03081, 0xFFFF8003#32, 0x80027FFF#32, 0x80023FFF#32),
    (0x8FDFF0C1, 0x12345#32, 0x0#32, 0x12344#32), (0x87E03081, 0xFFFF8003#32, 0x80027FFF#32, 0x7FFB#32),
    (0x8FFFF0C1, 0x12345#32, 0x0#32, 0x0#32)] = true := by decide

/-- The table of spec/95 section 2.2, two columns. -/
theorem test_compare_results_1 : resultsAre
   [(0x84003081, 0x0#32, 0xFFFFFFFF#32, 0x0#32), (0x84003081, 0x80000000#32, 0x7FFFFFFF#32, 0x0#32),
    (0x84203081, 0x0#32, 0xFFFFFFFF#32, 0x1#32), (0x84203081, 0x80000000#32, 0x7FFFFFFF#32, 0x1#32),
    (0x84403081, 0x0#32, 0xFFFFFFFF#32, 0x1#32), (0x84403081, 0x80000000#32, 0x7FFFFFFF#32, 0x0#32),
    (0x84603081, 0x0#32, 0xFFFFFFFF#32, 0x0#32), (0x84603081, 0x80000000#32, 0x7FFFFFFF#32, 0x1#32),
    (0x84803081, 0x0#32, 0xFFFFFFFF#32, 0x1#32), (0x84803081, 0x80000000#32, 0x7FFFFFFF#32, 0x0#32),
    (0x84A03081, 0x0#32, 0xFFFFFFFF#32, 0x0#32), (0x84A03081, 0x80000000#32, 0x7FFFFFFF#32, 0x1#32),
    (0x84C03081, 0x0#32, 0xFFFFFFFF#32, 0x0#32), (0x84C03081, 0x80000000#32, 0x7FFFFFFF#32, 0x1#32)] = true := by decide

/-- The table of spec/95 section 2.2, two columns. -/
theorem test_compare_results_2 : resultsAre
   [(0x84E03081, 0x0#32, 0xFFFFFFFF#32, 0x1#32), (0x84E03081, 0x80000000#32, 0x7FFFFFFF#32, 0x0#32),
    (0x85003081, 0x0#32, 0xFFFFFFFF#32, 0x0#32), (0x85003081, 0x80000000#32, 0x7FFFFFFF#32, 0x1#32),
    (0x85203081, 0x0#32, 0xFFFFFFFF#32, 0x1#32), (0x85203081, 0x80000000#32, 0x7FFFFFFF#32, 0x0#32),
    (0x85403081, 0x0#32, 0xFFFFFFFF#32, 0x0#32), (0x85403081, 0x2#32, 0x4#32, 0x1#32),
    (0x85603081, 0x0#32, 0xFFFFFFFF#32, 0x1#32), (0x85603081, 0x2#32, 0x4#32, 0x0#32),
    (0x85803081, 0x0#32, 0xFFFFFFFF#32, 0x1#32), (0x85803081, 0x2#32, 0x4#32, 0x1#32),
    (0x85A03081, 0x0#32, 0xFFFFFFFF#32, 0x0#32), (0x85A03081, 0x2#32, 0x4#32, 0x0#32)] = true := by decide

/-! ### Loads and stores -/

/-- T400 to T405, little-endian. -/
theorem test_loads_little_endian : loadsAre (bytesAt1000 false)
    [(0xA00000C1, 0xB3A29180#32), (0xA10000C1, 0xFFFF9180#32), (0xA20020C1, 0x0000B3A2#32),
     (0xA30010C1, 0xFFFFFF91#32), (0xA40030C1, 0x000000B3#32)] = true := by decide

/-- T409 to T414, big-endian. -/
theorem test_loads_big_endian : loadsAre (bytesAt1000 true)
    [(0xA00000C1, 0x8091A2B3#32), (0xA10020C1, 0xFFFFA2B3#32), (0xA20000C1, 0x00008091#32),
     (0xA30010C1, 0xFFFFFF91#32), (0xA40030C1, 0x000000B3#32)] = true := by decide

/-- T426, T428 to T432: dismissible loads, the misaligned ones returning 0. -/
theorem test_dismissible_loads : loadsAre (bytesAt1000 false)
    [(0xA08010C1, 0#32), (0xA08000C1, 0xB3A29180#32), (0xA18020C1, 0xFFFFB3A2#32), (0xA28010C1, 0#32),
     (0xA38000C1, 0xFFFFFF80#32), (0xA48000C1, 0x80#32)] = true := by decide

/-- The bytes from 0x2000 on after one step. -/
def stored (bigEndian : Bool) (w : Nat) (v : Word) : Option (List Byte) :=
  after ((withRegs (bytesAt1000 bigEndian) [(1, 0x2000#32), (2, v)]).withFetchWord 32 w)
    (fun t => (List.range 4).map fun k => t.mem.read (0x2000 + k))

/-- T406 to T408, little-endian. -/
theorem test_stores_little_endian :
    stored false 0xA5000081 0x11223344#32 = some [0x44#8, 0x33#8, 0x22#8, 0x11#8]
    ∧ stored false 0xA5802081 0xAABBCCDD#32 = some [0#8, 0#8, 0xDD#8, 0xCC#8]
    ∧ stored false 0xA6003081 0xAABBCCDD#32 = some [0#8, 0#8, 0#8, 0xDD#8] := by decide

/-- T415 to T417, big-endian. -/
theorem test_stores_big_endian :
    stored true 0xA5000081 0x11223344#32 = some [0x11#8, 0x22#8, 0x33#8, 0x44#8]
    ∧ stored true 0xA5802081 0xAABBCCDD#32 = some [0#8, 0#8, 0xCC#8, 0xDD#8]
    ∧ stored true 0xA6003081 0xAABBCCDD#32 = some [0#8, 0#8, 0#8, 0xDD#8] := by decide

/-- T421, T424: MISALIGNED_TRAP. T444, T442: CREG_NO_MAPPING, CREG_ACCESS_VIOLATION. -/
theorem test_access_traps :
    after ((withRegs (bytesAt1000 false) [(1, 0x1000#32)]).withFetchWord 32 0xA00010C1) trapOf
      = some (9#5, 0x1001#32, 0x4000#32)
    ∧ after ((withRegs (bytesAt1000 false) [(1, 0x2000#32)]).withFetchWord 32 0xA5002081) trapOf
      = some (9#5, 0x2002#32, 0x4000#32)
    ∧ after ((bytesAt1000 false).withFetchWord 32 0xA01EC0C0) trapOf = some (10#5, 0xFFFFFFEC#32, 0x4000#32)
    ∧ after ((bytesAt1000 false).withFetchWord 32 0xA31E80C0) trapOf = some (11#5, 0xFFFFFFE8#32, 0x4000#32) := by
  decide

/-- T434, T438, T441: control registers. -/
theorem test_control_register_accesses :
    after (({ State.reset with trap := { State.reset.trap with savedPc := 0x1234#32 } }).withFetchWord 32 0xA01E80C0)
      (fun t => t.gpr 3) = some 0x1234#32
    ∧ after (start [(2, 0xDEADBEEF#32)] 0xA51A8080) (fun t => t.trap.scratch1) = some 0xDEADBEEF#32
    ∧ after (start [(2, 0xFFFFFFEC#32)] 0xA5188080) (fun t => t.cregValue .excause) = some 0x1000#32 := by
  decide

/-! ### Carry, divide step, select -/

/-- T163 and T169 (R3, B1), T214 and T216 with B2 = 0. -/
theorem test_carry_divide_select :
    after (start [(1, 0xFFFFFFFF#32), (2, 1#32)] 0x92443081) (fun t => (t.gpr 3, t.br 1)) = some (0#32, true)
    ∧ after (start [(1, 0xFFFFFFFF#32), (2, 5#32)] 0x94443081) (fun t => (t.gpr 3, t.br 1)) = some (3#32, true)
    ∧ after (start [(1, 0xA#32), (2, 0x14#32)] 0x90403081) (fun t => t.gpr 3) = some 0x14#32
    ∧ after (start [(1, 0xA#32), (2, 0x14#32)] 0x91403081) (fun t => t.gpr 3) = some 0xA#32 := by decide

/-! ### Bundles -/

/-- T106: immr extends its right neighbour. T220: slct reads the branch register of before the bundle. -/
theorem test_bundles :
    after (withWords (withRegs State.reset [(1, 1#32)]) [0x15891A2B#32, 0x880780C1#32]) (fun t => (t.gpr 3, t.pc))
      = some (0x12345679#32, 8#32)
    ∧ after (withWords (withRegs State.reset [(1, 1#32), (2, 2#32)]) [0x07040081#32, 0x90203081#32])
      (fun t => (t.gpr 3, t.br 1)) = some (2#32, true) := by decide

/-! ### Control transfer and system operations -/

/-- A state at 0x1000 with one instruction to run. -/
def startAt1000 (s : State) (w : Nat) : State := (s.setPc 0x1000#32).withFetchWord 32 w

/-- T500, T501, T502. -/
theorem test_branches :
    after (startAt1000 (State.reset.setBr 1 true) 0xB8800003) (fun t => t.pc) = some 0x100C#32
    ∧ after (startAt1000 State.reset 0xB8800003) (fun t => t.pc) = some 0x1004#32
    ∧ after (startAt1000 State.reset 0xBCFFFFFE) (fun t => t.pc) = some 0xFF8#32 := by decide

/-- T510, T512, T515, T517. -/
theorem test_jumps_and_calls :
    after (startAt1000 State.reset 0xB17FFBFF) (fun t => t.pc) = some 0xFFFFFFFC#32
    ∧ after (startAt1000 State.reset 0xB0000100) (fun t => (t.gpr 63, t.pc)) = some (0x1004#32, 0x1400#32)
    ∧ after (startAt1000 (withRegs State.reset [(63, 0x5003#32)]) 0xB1800000) (fun t => t.pc) = some 0x5000#32
    ∧ after (startAt1000 (withRegs State.reset [(63, 0x5000#32)]) 0xB0800000) (fun t => (t.gpr 63, t.pc))
      = some (0x1004#32, 0x5000#32) := by decide

/-- T520, T521. -/
theorem test_rfi :
    after (startAt1000 { State.reset with
      trap := { State.reset.trap with
        savedPc := 0x2000#32, savedPsw := 3#32, savedSavedPc := 0x3000#32, savedSavedPsw := 6#32 } } 0xB2000000)
      (fun t => (t.psw, t.trap.savedPsw, t.trap.savedPc, t.pc)) = some (3#32, 6#32, 0x3000#32, 0x2000#32)
    ∧ after (startAt1000 { State.reset with
      trap := { State.reset.trap with savedPc := 0x2002#32, savedPsw := 0xFFFFFFFF#32 } } 0xB2000000)
      (fun t => (t.psw, t.pc)) = some (0x31F#32, 0x2000#32) := by decide

/-- T526, T530, T528. -/
theorem test_pswset_pswclr :
    after (start [(2, 0xFFFFFFFF#32)] 0xA9000080) (fun t => t.psw) = some 0x31F#32
    ∧ after ((withRegs { State.reset with psw := 0x131A#32 } [(2, 0xFFFFFFFF#32)]).withFetchWord 32 0xA9800080)
      (fun t => t.psw) = some 0#32
    ∧ after ((withRegs { State.reset with psw := 1#32 } [(2, 2#32)]).withFetchWord 32 0xA9000080)
      (fun t => (t.trap.excauseno, t.trap.savedPsw, t.psw)) = some (6#5, 1#32, 0#32) := by decide

/-- T533, T535, T537 from PC 0. -/
theorem test_trap_operations :
    after ({ State.reset with psw := 3#32 }.withFetchWord 32 0x9FC12345) (fun t => (t.trap.excauseno, t.trap.savedPsw))
      = some (7#5, 3#32)
    ∧ after ({ State.reset with psw := 0x102#32 }.withFetchWord 32 0x9FA00005)
      (fun t => (t.trap.excauseno, t.trap.savedPsw, t.psw)) = some (5#5, 0x102#32, 0#32)
    ∧ after (start [] 0x9FE00000) (fun t => t.trap.excauseno) = some 6#5 := by decide

/-- T452 to T456, T458: nothing but the PC changes. -/
theorem test_operations_without_effect :
    ([0xA6800001, 0xA7000001, 0xA7800001, 0xA8000000, 0xA8800001, 0x9F800000].all fun w =>
      after (start [(1, 0x1001#32)] w) (fun t => (t.pc, t.gpr 1, t.trap.excauseno)) == some (4#32, 0x1001#32, 0#5))
      = true := by decide

/-! ### Traps and devices -/

/-- T745: debug interrupt entry. -/
theorem test_debug_interrupt :
    after { State.reset with
      pc := 0x100#32, psw := 0x31F#32, dbgPending := true
      trap := { State.reset.trap with savedPc := 0x2000#32, savedPsw := 2#32, excauseno := 7#5 } }
      (fun t => (t.trap.savedSavedPc, t.trap.savedSavedPsw, t.trap.savedPc, t.trap.savedPsw, t.psw, t.pc))
      = some (0x2000#32, 2#32, 0x100#32, 0x31F#32, 0x1018#32, 0xFF004004#32) := by decide

/-- T729: IRQ_MASTER_IN with every mask bit 0; without INT_ENABLE none. -/
theorem test_external_interrupt :
    after { State.reset with psw := 2#32, pins := { State.reset.pins with irqMaster := true } }
      (fun t => (t.trap.excauseno, t.trap.savedPsw, t.psw)) = some (2#5, 2#32, 0#32)
    ∧ after ({ State.reset with pins := { State.reset.pins with irqMaster := true } }.withFetchWord 32 0x80000000)
      (fun t => t.pc) = some 4#32 := by decide

/-- T739: bits 1:0 of an instruction breakpoint's bound are ignored. -/
theorem test_instruction_breakpoint :
    after (startAt1000 { State.reset with
      psw := 0x200#32, brk := { State.reset.brk with iControl := 4#4, iLower := 0x1003#32 } } 0x80000000)
      (fun t => (t.trap.excauseno, t.trap.savedPc, t.psw)) = some (3#5, 0x1000#32, 0#32) := by decide

/-- A port that holds `queue`, with COUNT 0x100 and TIMEOUT `timeout`. -/
def sdiState (i : Fin 4) (queue : List Word) (timeout : Word) : State :=
  State.reset.setSdiPort i { count := 0x100#32, timeout := timeout, queue := queue }

/-- T750; T751: the first stalled cycle, and the trap when the timeout is 0. -/
theorem test_sdi_load :
    after ((withRegs (sdiState 0 [0x11#32, 0x22#32] 0x37#32) [(1, 0xFFFFE000#32)]).withFetchWord 32 0xA00000C1)
      (fun t => (t.gpr 3, (t.sdiPort 0).queue, (t.sdiPort 0).timeout)) = some (0x11#32, [0x22#32], 0x100#32)
    ∧ after ((withRegs (sdiState 0 [] 3#32) [(1, 0xFFFFE000#32)]).withFetchWord 32 0xA00000C1)
      (fun t => (t.pc, (t.sdiPort 0).timeout)) = some (0#32, 2#32)
    ∧ after ((withRegs (sdiState 0 [] 0#32) [(1, 0xFFFFE000#32)]).withFetchWord 32 0xA00000C1)
      (fun t => (t.trap.excauseno, t.trap.exaddress)) = some (14#5, 0xFFFFE000#32) := by decide +kernel

/-- T756: a store to an output port. -/
theorem test_sdi_store :
    after ((withRegs (sdiState 2 [1#32] 7#32) [(5, 0xFFFFE800#32), (2, 0xCAFE#32)]).withFetchWord 32 0xA5000085)
      (fun t => ((t.sdiPort 2).queue, (t.sdiPort 2).timeout)) = some ([1#32, 0xCAFE#32], 0x100#32) := by decide +kernel

/-! ### The hypotheses of the obligations are met

Each theorem is named after the obligation whose hypotheses it meets, all together, by a concrete state and operands. -/

/-- User mode, after reset otherwise. -/
def user : State := { State.reset with psw := 1#32 }

/-- PSW `psw` and one valid entry, number 5: 0x10000 to 0x11FFF onto 0x30000, with word 0 `w0` (0x10FF00 has every
permission, is dirty and shared). -/
def paged (psw : Word) (w0 : BitVec 25) : State :=
  { State.reset with
    psw := psw
    mmu := { State.reset.mmu with
      utlb := State.reset.mmu.utlb.set 5 { word0 := w0, vaddr := 8#19, paddr := 24#19 } } }

/-- `paged` with entry 9 mapping the same page. -/
def pagedTwice (psw : Word) : State :=
  { paged psw 0x10FF00#25 with
    mmu := { (paged psw 0x10FF00#25).mmu with
      utlb := (paged psw 0x10FF00#25).mmu.utlb.set 9 { word0 := 0x10FF00#25, vaddr := 8#19, paddr := 24#19 } } }

/-- A data breakpoint on address 0x2000. -/
def watched : State :=
  { State.reset with psw := 0x100#32, brk := { State.reset.brk with dControl := 4#4, dLower := 0x2000#32 } }

/-- After reset, with R1 set. -/
def based (v : Word) : State := State.reset.setGpr 1 v

/-- The short immediate 0 is the word 0. -/
theorem based_address (s : State) (h : s.bundle = {}) : s.imm 0#9 = 0#32 := by simp [State.imm, h]

/-- AddAndSubtractResults, ShiftResults, BitwiseAndMinMaxResults, MonadicResults, CarryAndDivideStepResults,
CompareResults, LogicalResults, SelectResults, HalfWordMultiplyResults, WordMultiplyResults, BranchAndCallResults,
TrapOperationsTakeTheirException: their one hypothesis, at a bundle boundary and as the last of two operations. -/
theorem test_witness_alone :
    State.reset.alone ∧ State.alone { State.reset with bundle := { words := 2, ext := some 5#23 } } :=
  ⟨⟨rfl, rfl⟩, rfl, rfl⟩

theorem test_witness_DecodeOfEncodeIsTheInstruction :
    (0x80#8 ++ 0x02#8 ++ 0x5A#8 ++ 0x56#8 : Word) = encodeSyllable true (.addR 37#6 22#6 41#6) := by decide

theorem test_witness_DecodedWordIsTheEncoding : decodeSyllable 0x00025A56#32 = .ok (.addR 37#6 22#6 41#6) := by
  decide

theorem test_witness_StepRunsTheDecodedInstruction :
    (start [] 0x00003081).quiet ∧ (start [] 0x00003081).bundle = {}
    ∧ (start [] 0x00003081).fetchBundle = .ok [0x80003081#32] ∧ stopBit 0x80003081#32 = true
    ∧ decodeSyllable 0x80003081#32 = .ok (.addR 3#6 1#6 2#6)
    ∧ bundleFlaw (start [] 0x00003081).pc [.addR 3#6 1#6 2#6] = none
    ∧ (start [] 0x00003081).boundary.debugAccepted = false ∧ (start [] 0x00003081).boundary.boundaryCauses = []
    ∧ (start [] 0x00003081).boundary.bundle = {}
    ∧ (start [] 0x00003081).boundary.fetchBundle = .ok [0x80003081#32]
    ∧ bundleFlaw (start [] 0x00003081).boundary.pc [.addR 3#6 1#6 2#6] = none :=
  ⟨⟨by decide, by decide, by decide, by decide, by decide, by decide⟩,
    by decide⟩

/-- The words of add $r3 = $r1, $r2 and of stw 8[$r1] = $r2 in one bundle after reset. -/
def addAndStore : State := withWords State.reset [0x00003081#32, 0xA5008081#32]

/-- A legal bundle of two syllables. -/
theorem test_witness_StepRunsTheDecodedInstruction_bundle :
    addAndStore.boundary.debugAccepted = false ∧ addAndStore.boundary.boundaryCauses = []
    ∧ addAndStore.boundary.fetchBundle = .ok [0x00003081#32, 0xA5008081#32]
    ∧ decodeBundle addAndStore.boundary.pc [0x00003081#32, 0xA5008081#32]
      = .ok [.addR 3#6 1#6 2#6, .stw 1#6 8#9 2#6]
    ∧ addAndStore.boundary.userMode = false := by decide

/-- One syllable with its stop bit, four without any, and the first word of the debug ROM. -/
theorem test_witness_FetchReadsTheBundleFromMemory :
    ((start [] 0x00003081).leadsTo ((start [] 0x00003081).pc + BitVec.ofNat 32 (4 * 0)) 0#32 0
      ∧ (start [] 0x00003081).fetchYields 0#32 0x80003081#32 ∧ stopBit 0x80003081#32 = true)
    ∧ (∀ k, k < 4 → ∃ pa, State.reset.leadsTo (State.reset.pc + BitVec.ofNat 32 (4 * k)) pa 0
        ∧ State.reset.fetchYields pa 0#32) ∧ stopBit 0#32 = false
    ∧ (let s : State := { State.reset with pc := 0xFF004000#32 }
       s.leadsTo (s.pc + BitVec.ofNat 32 (4 * 0)) 0xFF004000#32 0 ∧ s.fetchYields 0xFF004000#32 0xB1000000#32
        ∧ stopBit 0xB1000000#32 = true) := by
  refine ⟨⟨.inl (by decide), .inl (by decide), by decide⟩, fun k hk => ⟨_, .inl ⟨by decide, rfl⟩, .inl ?_⟩, by decide,
    .inl (by decide), .inr ⟨by decide, 0, by decide, by decide⟩, by decide⟩
  have h : ∀ k : Fin 4, inPeripheralBlock State.reset.cfg (State.reset.pc + BitVec.ofNat 32 (4 * k.val)) = false
      ∧ busReadError State.reset.cfg (State.reset.pc + BitVec.ofNat 32 (4 * k.val)) = false
      ∧ 0#32 = State.reset.mem.load State.reset.cfg.bigEndian (State.reset.pc + BitVec.ofNat 32 (4 * k.val)) .word := by
    decide
  exact h ⟨k, hk⟩

theorem test_witness_IllegalBundleRaisesIllInst :
    State.reset.boundary.debugAccepted = false ∧ State.reset.boundary.boundaryCauses = []
    ∧ State.reset.boundary.fetchBundle = .ok [0#32, 0#32, 0#32, 0#32]
    ∧ decodeBundle State.reset.boundary.pc [0#32, 0#32, 0#32, 0#32] = .error .noStop := by decide

/-- pswset beside sbrk, in user mode. -/
def userPswsetAndSbrk : State := { withWords State.reset [0x29000080#32, 0x9FA00005#32] with psw := 1#32 }

theorem test_witness_IllegalBundleRaisesIllInst_privileged :
    userPswsetAndSbrk.boundary.debugAccepted = false ∧ userPswsetAndSbrk.boundary.boundaryCauses = []
    ∧ userPswsetAndSbrk.boundary.fetchBundle = .ok [0x29000080#32, 0x9FA00005#32]
    ∧ decodeBundle userPswsetAndSbrk.boundary.pc [0x29000080#32, 0x9FA00005#32] = .ok [.pswset 2#6, .sbrk 5#21]
    ∧ userPswsetAndSbrk.boundary.userMode = true ∧ (opInfo (.pswset 2#6)).privileged = true
    ∧ after userPswsetAndSbrk (fun t => t.trap.excauseno) = some 6#5 := by decide

/-- A legal bundle with an extension, a multiply and a store; the clauses of the rule on an illegal one. -/
theorem test_witness_LegalBundlesAreThoseOfTheRules :
    decodeBundle 0#32 [0x15891A2B#32, 0x0AA780C1#32, 0xA5008081#32]
      = .ok [.immr 0x091A2B#23, .mullI 3#6 1#6 0x78#9, .stw 1#6 8#9 2#6]
    ∧ bundleFlaw 0#32 [.immr 0x091A2B#23, .mullI 3#6 1#6 0x78#9, .stw 1#6 8#9 2#6] = none
    ∧ bundleFlaw 4#32 [.immr 0x091A2B#23, .mullI 3#6 1#6 0x78#9] ≠ none := by decide

theorem test_witness_MisplacedOperationsMakeABundleIllegal :
    (([.addR 3#6 1#6 2#6] : List Instr) ≠ [] ∧ (∃ c t, (.br 1#3 3#23 : Instr) = .br c t))
    ∧ (([] : List Instr) ≠ [] ∨ ([.sync] : List Instr) ≠ []) ∧ ((.syscall 5#21 : Instr) = .prgins
      ∨ ∃ n, (.syscall 5#21 : Instr) = .syscall n) :=
  ⟨⟨by decide, _, _, rfl⟩, .inr (by decide), .inr ⟨_, rfl⟩⟩

theorem test_witness_ImmediatesAreFormedFromExtensions :
    State.reset.bundle.ext = none
    ∧ (State.reset.attach (some 0x091A2B#23)).bundle.ext = some 0x091A2B#23 := ⟨rfl, rfl⟩

theorem test_witness_BundleReadsBeforeItWrites :
    ([.addR 3#6 1#6 2#6, .imml 7#23] : List Instr) ≠ []
    ∧ (∀ e ∈ [({ writes := [.gpr 3#6 1#32] } : Effect)], e.raised = none ∧ e.stall = none)
    ∧ (3#6 : RegNum) ≠ 4#6 ∧ (0#6 : RegNum) ≠ 63#6 := by decide

theorem test_witness_ThrowingBundleCommitsNothing :
    ((∃ e ∈ [({ raised := some { cause := .sbreak } } : Effect)], e.raised ≠ none)
      ∧ ∀ e ∈ [({ raised := some { cause := .sbreak } } : Effect)], ∀ q, e.raised = some q → q.cause ≠ .itlb →
          q.cause ≠ .dtlb → q.tlb = none)
    ∧ State.reset.userMode = false ∧ Width.misaligned .word (State.reset.gpr 0#6 + (1#9).signExtend 32) = true
    ∧ isCRegSpace (State.reset.gpr 0#6 + (1#9).signExtend 32) = false
    ∧ State.reset.dbreakHit (State.reset.gpr 0#6 + (1#9).signExtend 32) = false := by
  refine ⟨⟨⟨_, List.mem_singleton_self _, by decide⟩, ?_⟩, by decide⟩
  intro e he q hq _ _
  rw [List.mem_singleton] at he
  subst he
  cases hq
  rfl

/-- Canonical memory, the first and the last byte of a word, and an address outside the peripheral block. -/
theorem test_witness_MultiByteValuesFollowTheByteOrder :
    State.reset.mem.wf = true ∧ 0 < Width.bytes .byte ∧ 3 < Width.bytes .word
    ∧ inPeripheralBlock State.reset.cfg 0#32 = false ∧ busReadError State.reset.cfg 0#32 = false := by decide

/-- Counting bundles, taken branches, exceptions and interrupts. -/
def counting (s : State) : State := { s with pm := { s.pm with enb := true, event := #v[10, 12, 14, 15] } }

/-- The UTLB of `paged`. -/
def onePage (w0 : BitVec 25) : Vector UtlbEntry 64 :=
  State.reset.mmu.utlb.set 5 { word0 := w0, vaddr := 8#19, paddr := 24#19 }

theorem paged_only (psw : Word) : (paged psw 0x10FF00#25).onlyMaps 0x10004#32 5 := by
  have h : ∀ j : Fin 64, ((onePage 0x10FF00#25).get j).maps 0#8 0x10004#32 = true ↔ j = 5 := by decide
  exact h

/-- Not dirty. -/
theorem pagedClean_only (psw : Word) : (paged psw 0x107F00#25).onlyMaps 0x10004#32 5 := by
  have h : ∀ j : Fin 64, ((onePage 0x107F00#25).get j).maps 0#8 0x10004#32 = true ↔ j = 5 := by decide
  exact h

/-- Without any permission. -/
theorem pagedNone_only (psw : Word) : (paged psw 0x108100#25).onlyMaps 0x10004#32 5 := by
  have h : ∀ j : Fin 64, ((onePage 0x108100#25).get j).maps 0#8 0x10004#32 = true ↔ j = 5 := by decide
  exact h

theorem paged_unmapped (psw : Word) (k : Fin 64) : ¬ (paged psw 0x10FF00#25).entryMaps 0x20000#32 k := by
  have h : ∀ k : Fin 64, ¬ ((onePage 0x10FF00#25).get k).maps 0#8 0x20000#32 = true := by decide
  exact h k

theorem pagedTwice_two (psw : Word) : ∃ j k, j ≠ k ∧ (pagedTwice psw).entryMaps 0x10004#32 j
    ∧ (pagedTwice psw).entryMaps 0x10004#32 k := by
  have h : (((onePage 0x10FF00#25).set 9 { word0 := 0x10FF00#25, vaddr := 8#19, paddr := 24#19 }).get 5).maps
      0#8 0x10004#32 = true := by decide
  have h' : (((onePage 0x10FF00#25).set 9 { word0 := 0x10FF00#25, vaddr := 8#19, paddr := 24#19 }).get 9).maps
      0#8 0x10004#32 = true := by decide
  exact ⟨5, 9, by decide, h, h'⟩

/-- A word untranslated, the last half-word below control register space, and a word translated: 0x10004 leads to
0x30004. -/
theorem test_witness_LoadResults :
    (State.reset.alone ∧ State.reset.reaches .word (State.reset.gpr 0#6 + State.reset.imm 8#9) 8#32 1
      ∧ busReadError State.reset.cfg 8#32 = false)
    ∧ ((based 0xFFFEFFFE#32).reaches .half ((based 0xFFFEFFFE#32).gpr 1#6 + (based 0xFFFEFFFE#32).imm 0#9) 0xFFFEFFFE#32 1)
    ∧ ((paged 4#32 0x10FF00#25).alone ∧ (paged 4#32 0x10FF00#25).reaches .word 0x10004#32 0x30004#32 1) :=
  ⟨⟨⟨rfl, rfl⟩, ⟨by decide, by decide, by decide, .inl (by decide), by decide⟩,
    by decide⟩,
    ⟨by decide, by decide, by decide, .inl (by decide), by decide⟩,
    ⟨rfl, rfl⟩, ⟨by decide, by decide, by decide,
      .inr ⟨by decide, 5, paged_only _, by decide, by decide,
        fun h => absurd h (by decide)⟩, by decide⟩⟩

/-- Each clause of a dismissible load: read, outside the speculative control unit, control register space, misaligned,
unmapped, unreadable, and the three traps. -/
theorem test_witness_DismissibleLoadResults :
    (State.reset.reaches .word 8#32 8#32 1 ∧ State.reset.scuHit 8#32 = true ∧ busReadError State.reset.cfg 8#32 = false)
    ∧ (let s : State := { State.reset with mmu := { State.reset.mmu with scuLimit := Vector.replicate 4 0#19 } }
      s.alone ∧ s.dbreakHit 0x2000#32 = false ∧ isCRegSpace 0x2000#32 = false
        ∧ Width.misaligned .word 0x2000#32 = false ∧ s.leadsTo 0x2000#32 0x2000#32 1 ∧ s.scuHit 0x2000#32 = false)
    ∧ (State.reset.dbreakHit 0xFFFF0000#32 = false ∧ isCRegSpace 0xFFFF0000#32 = true)
    ∧ (State.reset.dbreakHit 1#32 = false ∧ isCRegSpace 1#32 = false ∧ Width.misaligned .half 1#32 = true
        ∧ State.reset.psw.getLsbD 4 = false ∧ State.reset.leadsTo 1#32 1#32 1)
    ∧ ((paged 4#32 0x10FF00#25).alone ∧ (paged 4#32 0x10FF00#25).dbreakHit 0x20000#32 = false
        ∧ isCRegSpace 0x20000#32 = false ∧ Width.misaligned .word 0x20000#32 = false
        ∧ (paged 4#32 0x10FF00#25).psw.getLsbD 2 = true ∧ (paged 4#32 0x10FF00#25).psw.getLsbD 3 = false
        ∧ ∀ k, ¬ (paged 4#32 0x10FF00#25).entryMaps 0x20000#32 k)
    ∧ ((paged 4#32 0x108100#25).dbreakHit 0x10004#32 = false ∧ isCRegSpace 0x10004#32 = false
        ∧ Width.misaligned .word 0x10004#32 = false ∧ (paged 4#32 0x108100#25).onlyMaps 0x10004#32 5
        ∧ ((paged 4#32 0x108100#25).prot ((paged 4#32 0x108100#25).mmu.utlb.get 5)).getLsbD 1 = false)
    ∧ (watched.alone ∧ watched.dbreakHit 0x2000#32 = true)
    ∧ (let s : State := { State.reset with psw := 0x10#32 }
      s.alone ∧ s.dbreakHit 1#32 = false ∧ s.psw.getLsbD 4 = true)
    ∧ ((pagedTwice 4#32).alone ∧ (pagedTwice 4#32).dbreakHit 0x10004#32 = false
        ∧ (pagedTwice 4#32).psw.getLsbD 2 = true ∧ ∃ j k, j ≠ k ∧ (pagedTwice 4#32).entryMaps 0x10004#32 j
          ∧ (pagedTwice 4#32).entryMaps 0x10004#32 k)
    ∧ (paged 12#32 0x10FF00#25).psw.getLsbD 3 = true ∧ ∀ k, ¬ (paged 12#32 0x10FF00#25).entryMaps 0x20000#32 k := by
  refine ⟨⟨⟨by decide, by decide, by decide, .inl (by decide), by decide⟩,
    by decide⟩, ?_, by decide, ?_, ⟨⟨rfl, rfl⟩, by decide, by decide, by decide,
    by decide, by decide, paged_unmapped _⟩, ⟨by decide, by decide, by decide,
    pagedNone_only _, by decide⟩, ⟨⟨rfl, rfl⟩, by decide⟩, ⟨⟨rfl, rfl⟩, by decide⟩,
    ⟨⟨rfl, rfl⟩, by decide, by decide, pagedTwice_two _⟩, by decide, paged_unmapped _⟩
  · exact ⟨⟨rfl, rfl⟩, by decide, by decide, by decide, .inl (by decide),
      by decide⟩
  · exact ⟨by decide, by decide, by decide, by decide, .inl (by decide)⟩

/-- A word at the last aligned address before control register space, and one translated to a dirty page. -/
theorem test_witness_StoreResults :
    (State.reset.alone ∧ State.reset.mem.wf = true ∧ State.reset.reaches .word 0xFFFEFFFC#32 0xFFFEFFFC#32 2
      ∧ busWriteError State.reset.cfg 0xFFFEFFFC#32 = false)
    ∧ (paged 4#32 0x10FF00#25).reaches .word 0x10004#32 0x30004#32 2 :=
  ⟨⟨⟨rfl, rfl⟩, by decide, ⟨by decide, by decide, by decide, .inl (by decide),
    by decide⟩, by decide⟩, ⟨by decide, by decide, by decide,
    .inr ⟨by decide, 5, paged_only _, by decide, by decide, fun _ => by decide⟩,
    by decide⟩⟩

/-- Each clause of the traps of an access: breakpoint, part access, no register, user mode, misaligned, and the TLB
refusing a read (no permission) and a write (a clean page). -/
theorem test_witness_LoadAndStoreTraps :
    (watched.alone ∧ watched.dbreakHit 0x2000#32 = true)
    ∧ (State.reset.dbreakHit 0xFFFFFFF8#32 = false ∧ isCRegSpace 0xFFFFFFF8#32 = true)
    ∧ cregAt 0xFFFFFFFC#32 = none
    ∧ (user.alone ∧ user.dbreakHit 0xFFFFFFF8#32 = false ∧ cregAt 0xFFFFFFF8#32 = some .psw ∧ user.userMode = true
      ∧ ∀ p, (CReg.psw = .sdiData p ∨ CReg.psw = .sdiReady p) → (user.sdiPort p).priv ≠ 1#2)
    ∧ (isCRegSpace 2#32 = false ∧ Width.misaligned .word 2#32 = true)
    ∧ (paged 4#32 0x108100#25).tlbRefuses 0x10004#32 1 ∧ (paged 4#32 0x107F00#25).tlbRefuses 0x10004#32 2 :=
  ⟨⟨⟨rfl, rfl⟩, by decide⟩, by decide, by decide, ⟨⟨rfl, rfl⟩, by decide,
    by decide, by decide, fun p h => by rcases h with h | h <;> cases h⟩, by decide,
    ⟨by decide, .inr (.inr ⟨5, pagedNone_only _, .inl (by decide)⟩)⟩,
    by decide, .inr (.inr ⟨5, pagedClean_only _, .inr ⟨rfl, by decide⟩⟩)⟩

/-- No mapping, two mappings, and one entry that refuses a load and a store. -/
theorem test_witness_DtlbExceptionsAreRecorded :
    ((paged 4#32 0x10FF00#25).alone ∧ (paged 4#32 0x10FF00#25).dbreakHit 0x20000#32 = false
      ∧ isCRegSpace 0x20000#32 = false ∧ Width.misaligned .word 0x20000#32 = false
      ∧ (paged 4#32 0x10FF00#25).tlbRefuses 0x20000#32 1)
    ∧ (pagedTwice 4#32).tlbRefuses 0x10004#32 1 ∧ (paged 4#32 0x108100#25).tlbRefuses 0x10004#32 1
    ∧ (paged 4#32 0x107F00#25).tlbRefuses 0x10004#32 2 :=
  ⟨⟨⟨rfl, rfl⟩, by decide, by decide, by decide, by decide, .inl (paged_unmapped _)⟩,
    ⟨by decide, .inr (.inl (pagedTwice_two _))⟩,
    ⟨by decide, .inr (.inr ⟨5, pagedNone_only _, .inl (by decide)⟩)⟩,
    by decide, .inr (.inr ⟨5, pagedClean_only _, .inr ⟨rfl, by decide⟩⟩)⟩

theorem test_witness_PurgeAddressTrapsOrAdvances :
    (isCRegSpace 0x10004#32 = false ∧ (pagedTwice 4#32).psw.getLsbD 2 = true
      ∧ ∃ j k, j ≠ k ∧ (pagedTwice 4#32).entryMaps 0x10004#32 j ∧ (pagedTwice 4#32).entryMaps 0x10004#32 k)
    ∧ ((paged 12#32 0x10FF00#25).psw.getLsbD 2 = true ∧ (paged 12#32 0x10FF00#25).psw.getLsbD 3 = true
      ∧ ∀ k, ¬ (paged 12#32 0x10FF00#25).entryMaps 0x20000#32 k)
    ∧ isCRegSpace 0xFFFF0000#32 = true ∧ State.reset.psw.getLsbD 2 = false
    ∧ (∃ k, (paged 4#32 0x10FF00#25).onlyMaps 0x10004#32 k)
    ∧ (paged 4#32 0x10FF00#25).psw.getLsbD 3 = false ∧ ∀ k, ¬ (paged 4#32 0x10FF00#25).entryMaps 0x20000#32 k :=
  ⟨⟨by decide, by decide, pagedTwice_two _⟩, ⟨by decide, by decide, paged_unmapped _⟩,
    by decide, by decide, ⟨5, paged_only _⟩, by decide, paged_unmapped _⟩

theorem test_witness_OperationsThatOnlyAdvance : State.reset.alone ∧ State.reset.userMode = false := ⟨⟨rfl, rfl⟩, rfl⟩

/-- The idle macro, and each way not to be it. -/
theorem test_witness_GotoResults :
    (State.reset.alone ∧ State.reset.bundle.words = 1 ∧ State.reset.pm.enb = false
      ∧ State.reset.sdiOutputsEmpty = true)
    ∧ (1#23 ≠ 0#23) ∧ State.bundle { State.reset with bundle := { words := 2 } } ≠ {}
    ∧ (sdiState 2 [1#32] 7#32).sdiOutputsEmpty = false := ⟨⟨⟨rfl, rfl⟩, by decide +kernel⟩, by decide +kernel⟩

theorem test_witness_ReturnFromExceptionResult : State.reset.alone ∧ State.reset.userMode = false :=
  ⟨⟨rfl, rfl⟩, rfl⟩

theorem test_witness_PswSetAndClearResults : State.reset.alone ∧ State.reset.userMode = false := ⟨⟨rfl, rfl⟩, rfl⟩

theorem test_witness_PrivilegedOperationsTrapInUserMode : user.alone ∧ user.userMode = true := ⟨⟨rfl, rfl⟩, rfl⟩

/-- A cause without a TLB record, and one with. -/
theorem test_witness_ExceptionEntrySavesAndJumps :
    (({ cause := .syscall } : Raised).cause ≠ .itlb ∧ ({ cause := .syscall } : Raised).tlb = none)
    ∧ ∃ record, (State.reset.raiseItlb 0#32).tlb = some record := ⟨⟨by decide, rfl⟩, _, rfl⟩

theorem test_witness_DebugInterruptEntry :
    (let s : State := { State.reset with dbgPending := true }
     s.boundary.dbgPending = true ∧ s.boundary.psw.getLsbD 12 = false)
    ∧ let s : State := { State.reset with inputs := [[.hostEvent 1#3 0#3]] }
      s.boundary.dbgPending = true ∧ s.boundary.psw.getLsbD 12 = false := by decide

/-- A bus error due, an accepted interrupt, an instruction breakpoint. -/
theorem test_witness_BoundaryCausesByPriority :
    (let s : State := { start [] 0x00003081 with dcError := some 0 }
     s.boundary.debugAccepted = false ∧ s.boundary.fetchBundle = .ok [0x80003081#32] ∧ s.boundary.sdiStalled = false
      ∧ s.boundary.dcError = some 0)
    ∧ (let s : State :=
        { start [] 0x00003081 with psw := 2#32, pins := { State.reset.pins with irqMaster := true } }
      s.boundary.debugAccepted = false ∧ s.boundary.fetchBundle = .ok [0x80003081#32] ∧ s.boundary.sdiStalled = false
        ∧ s.boundary.dcError ≠ some 0 ∧ s.boundary.interruptAccepted = true)
    ∧ let s : State :=
        { start [] 0x00003081 with psw := 0x200#32, brk := { State.reset.brk with iControl := 4#4 } }
      s.boundary.debugAccepted = false ∧ s.boundary.fetchBundle = .ok [0x80003081#32] ∧ s.boundary.sdiStalled = false
        ∧ s.boundary.dcError ≠ some 0 ∧ s.boundary.interruptAccepted = false
        ∧ s.boundary.ibreakHit s.boundary.pc = true := by decide

/-- `paged` at an address that no entry maps. -/
def offPage : State := { paged 4#32 0x10FF00#25 with pc := 0x20000#32 }

/-- After reset, with bus errors on the first 16 bytes. -/
def faulty : State :=
  { State.reset with
    cfg := { State.reset.cfg with busErrors := [{ base := 0, size := 16, reads := true, writes := true }] } }

theorem offPage_unmapped (k : Fin 64) : ¬ offPage.boundary.entryMaps 0x20000#32 k := by
  have h : ∀ k : Fin 64, ¬ ((onePage 0x10FF00#25).get k).maps 0#8 0x20000#32 = true := by decide
  exact h k

/-- No syllable of `offPage` leads anywhere, so none can meet a bus error. -/
theorem offPage_later (j : Nat) (pa : Word) (h4 : j < 4)
    (h : offPage.boundary.leadsTo (offPage.boundary.pc + BitVec.ofNat 32 (4 * j)) pa 0) :
    ¬ offPage.boundary.fetchFails pa := by
  have none : ∀ j : Fin 4, ∀ k : Fin 64,
      ¬ ((onePage 0x10FF00#25).get k).maps 0#8 (0x20000#32 + BitVec.ofNat 32 (4 * j.val)) = true := by decide
  rcases h with ⟨h, -⟩ | ⟨-, k, hk, -⟩
  · exact absurd h (by decide)
  · exact absurd ((hk k).mpr rfl) (none ⟨j, h4⟩ k)

/-- `faulty` with its bus errors on the fourth word only. -/
def faultyFourth : State :=
  { State.reset with
    cfg := { State.reset.cfg with busErrors := [{ base := 12, size := 4, reads := true, writes := false }] } }

/-- Three words before the end of the page of `paged`. -/
def beforePageEnd : State := { paged 4#32 0x10FF00#25 with pc := 0x11FF4#32 }

theorem beforePageEnd_only (j : Nat) (h : j < 3) :
    beforePageEnd.boundary.onlyMaps (beforePageEnd.boundary.pc + BitVec.ofNat 32 (4 * j)) 5 := by
  have all : ∀ j : Fin 3, ∀ i : Fin 64,
      ((onePage 0x10FF00#25).get i).maps 0#8 (0x11FF4#32 + BitVec.ofNat 32 (4 * j.val)) = true ↔ i = 5 := by decide
  exact all ⟨j, h⟩

theorem beforePageEnd_unmapped (k : Fin 64) :
    ¬ beforePageEnd.boundary.entryMaps (beforePageEnd.boundary.pc + BitVec.ofNat 32 (4 * 3)) k := by
  have h : ∀ k : Fin 64, ¬ ((onePage 0x10FF00#25).get k).maps 0#8 0x12000#32 = true := by decide
  exact h k

/-- A page without execute permission, its last word at the PC, and a page after it whose first word fails on the bus. -/
def crossing : State :=
  { paged 4#32 0x108100#25 with
    pc := 0x11FFC#32
    cfg := { State.reset.cfg with busErrors := [{ base := 0x34000, size := 4, reads := true, writes := false }] }
    mmu := { (paged 4#32 0x108100#25).mmu with
      utlb := (onePage 0x108100#25).set 6 { word0 := 0x10FF00#25, vaddr := 9#19, paddr := 26#19 } } }

theorem crossing_only :
    crossing.boundary.onlyMaps 0x11FFC#32 5 ∧ crossing.boundary.onlyMaps 0x12000#32 6 := by
  have h : ∀ j : Fin 64, (((onePage 0x108100#25).set 6 { word0 := 0x10FF00#25, vaddr := 9#19, paddr := 26#19 }).get j).maps
      0#8 0x11FFC#32 = true ↔ j = 5 := by decide
  have h' : ∀ j : Fin 64, (((onePage 0x108100#25).set 6 { word0 := 0x10FF00#25, vaddr := 9#19, paddr := 26#19 }).get j).maps
      0#8 0x12000#32 = true ↔ j = 6 := by decide
  exact ⟨h, h'⟩

/-- A bus error on the first syllable, on the fourth, and on the second after one that may not be executed. -/
theorem test_witness_FetchFaultsTrap_busError :
    (faulty.boundary.debugAccepted = false ∧ faulty.boundary.boundaryCauses = []
      ∧ faulty.boundary.leadsTo (faulty.boundary.pc + BitVec.ofNat 32 (4 * 0)) 0#32 0
      ∧ faulty.boundary.fetchFails 0#32)
    ∧ (faultyFourth.boundary.debugAccepted = false ∧ faultyFourth.boundary.boundaryCauses = []
      ∧ (∀ j, j < 3 → faultyFourth.boundary.continuesAt (faultyFourth.boundary.pc + BitVec.ofNat 32 (4 * j)))
      ∧ faultyFourth.boundary.leadsTo (faultyFourth.boundary.pc + BitVec.ofNat 32 (4 * 3)) 12#32 0
      ∧ faultyFourth.boundary.fetchFails 12#32)
    ∧ crossing.boundary.debugAccepted = false ∧ crossing.boundary.boundaryCauses = []
      ∧ (∀ j, j < 1 → crossing.boundary.continuesAt (crossing.boundary.pc + BitVec.ofNat 32 (4 * j)))
      ∧ crossing.boundary.leadsTo (crossing.boundary.pc + BitVec.ofNat 32 (4 * 1)) 0x34000#32 0
      ∧ crossing.boundary.fetchFails 0x34000#32 := by
  refine ⟨⟨by decide, by decide, .inl (by decide), .inl (by decide)⟩,
    ⟨by decide, by decide, fun j hj => ⟨_, _, .inl ⟨by decide, rfl⟩, .inl ⟨?_, ?_, rfl⟩, ?_⟩, .inl (by decide),
      .inl (by decide)⟩,
    by decide, by decide, fun j hj => ?_,
    .inr ⟨by decide, 6, crossing_only.2, by decide, by decide, fun h => absurd h (by decide)⟩, .inl (by decide)⟩
  · have h : ∀ j : Fin 3, inPeripheralBlock faultyFourth.cfg (0#32 + BitVec.ofNat 32 (4 * j.val)) = false := by decide
    exact h ⟨j, hj⟩
  · have h : ∀ j : Fin 3, busReadError faultyFourth.cfg (0#32 + BitVec.ofNat 32 (4 * j.val)) = false := by decide
    exact h ⟨j, hj⟩
  · have h : ∀ j : Fin 3, stopBit (faultyFourth.mem.load false (0#32 + BitVec.ofNat 32 (4 * j.val)) .word) = false := by
      decide
    exact h ⟨j, hj⟩
  · obtain rfl : j = 0 := by omega
    exact ⟨0x31FFC#32, _, .inr ⟨by decide, 5, crossing_only.1, by decide⟩, .inl ⟨by decide, by decide, rfl⟩, by decide⟩

/-- The bus error of the second syllable is reported, not the ITLB of the first (60 R520). -/
theorem test_fetch_reports_later_bus_error : after crossing trapOf = some (0#5, 0#32, 0#32) := by decide

/-- No mapping of the first syllable; three syllables on a page, and a fourth on one that is not mapped. -/
theorem test_witness_FetchFaultsTrap_itlb :
    (offPage.boundary.debugAccepted = false ∧ offPage.boundary.boundaryCauses = []
      ∧ offPage.boundary.tlbRefuses (offPage.boundary.pc + BitVec.ofNat 32 (4 * 0)) 0
      ∧ ∀ j pa, 0 < j → j < 4 → offPage.boundary.leadsTo (offPage.boundary.pc + BitVec.ofNat 32 (4 * j)) pa 0 →
        ¬ offPage.boundary.fetchFails pa)
    ∧ beforePageEnd.boundary.debugAccepted = false ∧ beforePageEnd.boundary.boundaryCauses = []
      ∧ (∀ j, j < 3 → beforePageEnd.boundary.continuesAt (beforePageEnd.boundary.pc + BitVec.ofNat 32 (4 * j)))
      ∧ (∀ j, j < 3 → ∃ pa, beforePageEnd.boundary.leadsTo (beforePageEnd.boundary.pc + BitVec.ofNat 32 (4 * j)) pa 0)
      ∧ beforePageEnd.boundary.tlbRefuses (beforePageEnd.boundary.pc + BitVec.ofNat 32 (4 * 3)) 0 := by
  refine ⟨⟨by decide, by decide, ⟨by decide, .inl offPage_unmapped⟩, fun j pa _ => offPage_later j pa⟩, by decide, by decide,
    fun j hj => ⟨_, _, .inr ⟨by decide, 5, beforePageEnd_only j hj, rfl⟩, .inl ⟨?_, ?_, rfl⟩, ?_⟩,
    fun j hj => ⟨_, .inr ⟨by decide, 5, beforePageEnd_only j hj, rfl, by decide, fun h => absurd h (by decide)⟩⟩,
    by decide, .inl beforePageEnd_unmapped⟩
  · have h : ∀ j : Fin 3, inPeripheralBlock State.reset.cfg (((onePage 0x10FF00#25).get 5).translate
        (0x11FF4#32 + BitVec.ofNat 32 (4 * j.val))) = false := by decide
    exact h ⟨j, hj⟩
  · have h : ∀ j : Fin 3, busReadError State.reset.cfg (((onePage 0x10FF00#25).get 5).translate
        (0x11FF4#32 + BitVec.ofNat 32 (4 * j.val))) = false := by decide
    exact h ⟨j, hj⟩
  · have h : ∀ j : Fin 3, stopBit (State.reset.mem.load false (((onePage 0x10FF00#25).get 5).translate
        (0x11FF4#32 + BitVec.ofNat 32 (4 * j.val))) .word) = false := by decide
    exact h ⟨j, hj⟩

/-- A fetch from the interrupt controller's registers, and a word of the debug ROM before another. -/
theorem test_witness_FetchFaultsTrap_block :
    State.reset.fetchFails 0xFF000000#32
    ∧ let s : State := { State.reset with cfg := { State.reset.cfg with debugRom := [0#32] }, pc := 0xFF004004#32 }
      s.continuesAt 0xFF004004#32 :=
  ⟨.inr ⟨by decide, fun n h => by
      rw [show periphAt State.reset.cfg 0xFF000000#32 = some (.intPending 0) by decide] at h; cases h⟩, 0xFF004004#32, 0#32, .inl (by decide), .inr ⟨by decide, 1, by decide, by decide⟩, by decide⟩

/-- Word 0 of an entry of each page size. -/
theorem test_witness_PagesAndScuRegions :
    (({ word0 := 0x100000#25 } : UtlbEntry).word0.extractLsb' 20 3 = 1#3)
    ∧ (({ word0 := 0x200000#25 } : UtlbEntry).word0.extractLsb' 20 3 = 2#3)
    ∧ (({ word0 := 0x300000#25 } : UtlbEntry).word0.extractLsb' 20 3 = 3#3) := by decide

theorem test_witness_ControlRegisterMap : isCRegSpace 0xFFFF0000#32 = true ∧ isCRegSpace 0xFFFFFFFF#32 = true := by
  decide

/-- HANDLER_PC through `ldw HANDLER_PC[$r0]`, whose short immediate is -32. -/
theorem test_witness_ControlRegisterLoads :
    State.reset.alone ∧ State.reset.userMode = false
    ∧ State.reset.dbreakHit (State.reset.gpr 0#6 + State.reset.imm 0x1E0#9) = false
    ∧ isCRegSpace (State.reset.gpr 0#6 + State.reset.imm 0x1E0#9) = true
    ∧ cregAt (State.reset.gpr 0#6 + State.reset.imm 0x1E0#9) = some .handlerPc
    ∧ CReg.handlerPc ≠ .tlbReplace ∧ ∀ p, CReg.handlerPc ≠ .sdiData p :=
  ⟨⟨rfl, rfl⟩, by decide, by decide, by decide, by decide, by decide,
    fun p h => by cases h⟩

/-- SDIi_READY of an input port with a word and of an output port, neither being reset. -/
theorem test_witness_ControlRegisterLoads_devices :
    (let s := sdiState 0 [0x11#32] 3#32
     s.sdiInReset 0 = false ∧ (s.sdiParams 0).isInput = true ∧ (s.sdiPort 0).queue.length < 2 ^ 32
      ∧ (s.sdiParams 0).depth < 2 ^ 32)
    ∧ State.reset.sdiInReset 2 = false ∧ (State.reset.sdiParams 2).isInput = false := by decide +kernel

/-- SDI0_READY in user mode with PRIV 1; SDI0_DATA and SDI2_DATA while their channels are being reset. -/
theorem test_witness_sdi_user_and_reset :
    (let s : State := { withRegs (State.reset.setSdiPort 0 { count := 1#32, timeout := 1#32, priv := 1#2 })
        [(1, 0xFFFFE008#32)] with psw := 1#32 }
     s.userMode = true ∧ (s.sdiPort 0).priv = 1#2 ∧ s.dbreakHit (s.gpr 1#6 + s.imm 0#9) = false
      ∧ cregAt (s.gpr 1#6 + s.imm 0#9) = some (.sdiReady 0))
    ∧ (let s := State.setSdiReset State.reset 0 true
       s.sdiInReset 0 = true ∧ (s.sdiParams 0).isInput = true)
    ∧ (let s := State.reset.setSdiPort 2 { count := 1#32, timeout := 1#32, resetOutput := true }
       s.sdiInReset 2 = true ∧ (s.sdiParams 2).isInput = false) := by decide +kernel

/-- A load of PM_CR whose counter 0 counts bundles and counter 1 taken branches (61 R685: 0x0018A001 after the store). -/
theorem test_pm_cr_layout :
    State.cregValue { State.reset with pm := State.reset.pm.storeCr 0x0018A003#32 } .pmCr = 0x0018A001#32 := by decide

/-- A writable register, a read-only one, a reserved one, TLB_ENTRY3, TLB_CONTROL and SDI0_READY. -/
theorem test_witness_ControlRegisterStores :
    State.reset.alone ∧ State.reset.userMode = false
    ∧ State.reset.dbreakHit (State.reset.gpr 0#6 + State.reset.imm 0x1E0#9) = false
    ∧ isCRegSpace (State.reset.gpr 0#6 + State.reset.imm 0x1E0#9) = true
    ∧ cregAt (State.reset.gpr 0#6 + State.reset.imm 0x1E0#9) = some .handlerPc
    ∧ cregAt (State.reset.gpr 0#6 + State.reset.imm 0x1F8#9) = some .psw
    ∧ cregAt (State.reset.gpr 0#6 + State.reset.imm 0x100#9) = some (.reserved 0)
    ∧ cregAt (State.reset.gpr 0#6 + State.reset.imm 0x160#9) = some .tlbEntry3
    ∧ cregAt (State.reset.gpr 0#6 + State.reset.imm 0x150#9) = some .tlbControl
    ∧ cregAt ((based 0xFFFFE008#32).gpr 1#6 + (based 0xFFFFE008#32).imm 0#9) = some (.sdiReady 0) :=
  ⟨⟨rfl, rfl⟩, by decide⟩

/-- One address of each group of registers. -/
theorem test_witness_DeviceControlRegisterStores :
    (based 0xFFFFD000#32).alone ∧ (based 0xFFFFD000#32).userMode = false
    ∧ (based 0xFFFFD000#32).dbreakHit ((based 0xFFFFD000#32).gpr 1#6 + (based 0xFFFFD000#32).imm 0#9) = false
    ∧ isCRegSpace ((based 0xFFFFD000#32).gpr 1#6 + (based 0xFFFFD000#32).imm 0#9) = true
    ∧ cregAt ((based 0xFFFFD000#32).gpr 1#6 + (based 0xFFFFD000#32).imm 0#9) = some (.scuBase 0)
    ∧ cregAt ((based 0xFFFFD038#32).gpr 1#6 + (based 0xFFFFD038#32).imm 0#9) = some (.scuLimit 3)
    ∧ cregAt ((based 0xFFFFF800#32).gpr 1#6 + (based 0xFFFFF800#32).imm 0#9) = some .pmCr
    ∧ cregAt ((based 0xFFFFF820#32).gpr 1#6 + (based 0xFFFFF820#32).imm 0#9) = some (.pmCnt 3)
    ∧ cregAt ((based 0xFFFFF828#32).gpr 1#6 + (based 0xFFFFF828#32).imm 0#9) = some .pmPclk
    ∧ cregAt ((based 0xFFFFE010#32).gpr 1#6 + (based 0xFFFFE010#32).imm 0#9) = some (.sdiControl 0)
    ∧ cregAt ((based 0xFFFFE018#32).gpr 1#6 + (based 0xFFFFE018#32).imm 0#9) = some (.sdiCount 0)
    ∧ cregAt ((based 0xFFFFEC20#32).gpr 1#6 + (based 0xFFFFEC20#32).imm 0#9) = some (.sdiTimeout 3) :=
  ⟨⟨rfl, rfl⟩, by decide⟩

/-- PM_CR stored without RST and counting off; PM_CNT3 and PM_PCLK stored with counting on. -/
theorem test_witness_DeviceControlRegisterStores_counters :
    (let s := withRegs State.reset [(1, 0xFFFFF800#32), (2, 1#32)]
     s.alone ∧ cregAt (s.gpr 1#6 + s.imm 0#9) = some .pmCr ∧ (s.gpr 2#6).getLsbD 1 = false ∧ s.pm.enb = false)
    ∧ (let s := counting (based 0xFFFFF820#32)
       s.alone ∧ s.userMode = false ∧ s.dbreakHit (s.gpr 1#6 + s.imm 0#9) = false
        ∧ cregAt (s.gpr 1#6 + s.imm 0#9) = some (.pmCnt 3) ∧ s.pm.enb = true ∧ (0 : Fin 4) ≠ 3)
    ∧ (let s := counting (based 0xFFFFF828#32)
       s.alone ∧ cregAt (s.gpr 1#6 + s.imm 0#9) = some .pmPclk ∧ s.pm.enb = true) :=
  ⟨⟨⟨rfl, rfl⟩, by decide⟩, ⟨⟨rfl, rfl⟩, by decide⟩, ⟨rfl, rfl⟩, by decide⟩

/-- T705, T706: a load returns LFSR and LIMIT and clocks the LFSR (0xFFFF, whose four taps XOR to 0, gives 0xFFFE), a
store writes both. -/
theorem test_tlb_replace :
    after (start [] 0xA0148040) (fun t => (t.gpr 1, t.mmu.lfsr)) = some (0x0040FFFF#32, 0xFFFE#16)
    ∧ after (start [(1, 0xFF201234#32)] 0xA5148040) (fun t => t.cregValue .tlbReplace) = some 0x00201234#32 := by
  decide

/-- TLB_INDEX and TLB_REPLACE through R0: short immediates -128 and -184. -/
theorem test_witness_TlbIndexAndReplace :
    State.reset.alone ∧ State.reset.userMode = false
    ∧ State.reset.gpr 0#6 + State.reset.imm 0x180#9 = 0xFFFFFF80#32 ∧ State.reset.dbreakHit 0xFFFFFF80#32 = false
    ∧ State.reset.gpr 0#6 + State.reset.imm 0x148#9 = 0xFFFFFF48#32 ∧ State.reset.dbreakHit 0xFFFFFF48#32 = false :=
  ⟨⟨rfl, rfl⟩, by decide⟩

/-- Port 0, an input, with a word, waiting, waiting without timeouts and out of time; port 2, an output, with space. -/
theorem test_witness_SdiDataAccesses :
    (let s := withRegs (sdiState 0 [0x11#32, 0x22#32] 3#32) [(1, 0xFFFFE000#32)]
     s.userMode = false ∧ s.gpr 1#6 + s.imm 0#9 = 0xFFFFE000#32 + BitVec.ofNat 32 (0x400 * (0 : Fin 4).val)
      ∧ s.dbreakHit (s.gpr 1#6 + s.imm 0#9) = false ∧ s.sdiInReset 0 = false
      ∧ (s.sdiParams 0).isInput = true ∧ (s.sdiPort 0).queue = [0x11#32, 0x22#32])
    ∧ (let s := sdiState 0 [] 3#32
       s.bundle.toIssue = 0 ∧ s.bundle.pending = [] ∧ (s.sdiPort 0).queue = [] ∧ (s.sdiPort 0).timeoutDisable = false
        ∧ (s.sdiPort 0).timeout ≠ 0#32)
    ∧ (State.reset.setSdiPort 0 { count := 1#32, timeout := 0#32, timeoutDisable := true }).sdiPort 0
        = { count := 1#32, timeout := 0#32, timeoutDisable := true }
    ∧ ((sdiState 0 [] 0#32).sdiPort 0).timeout = 0#32
    ∧ (let s := withRegs (sdiState 2 [1#32] 7#32) [(5, 0xFFFFE800#32)]
       s.gpr 5#6 + s.imm 0#9 = 0xFFFFE000#32 + BitVec.ofNat 32 (0x400 * (2 : Fin 4).val)
        ∧ (s.sdiParams 2).isInput = false ∧ (s.sdiPort 2).queue.length < (s.sdiParams 2).depth)
    ∧ let s : State := { State.reset.setSdiPort 0 { count := 1#32, timeout := 1#32, priv := 1#2 } with psw := 1#32 }
      s.userMode = true ∧ (s.sdiPort 0).priv = 1#2 := by decide +kernel

/-- Port 2, an output, full: with time left, without, and with its timeouts disabled. -/
theorem test_witness_SdiDataAccesses_full :
    (let s := sdiState 2 [1#32, 2#32, 3#32, 4#32] 7#32
     (s.sdiParams 2).isInput = false ∧ (s.sdiParams 2).depth ≤ (s.sdiPort 2).queue.length
      ∧ (s.sdiPort 2).timeoutDisable = false ∧ (s.sdiPort 2).timeout ≠ 0#32)
    ∧ ((sdiState 2 [1#32, 2#32, 3#32, 4#32] 0#32).sdiPort 2).timeout = 0#32
    ∧ let s := State.reset.setSdiPort 2
        { count := 1#32, timeout := 0#32, timeoutDisable := true, queue := [1#32, 2#32, 3#32, 4#32] }
      (s.sdiParams 2).depth ≤ (s.sdiPort 2).queue.length ∧ (s.sdiPort 2).timeoutDisable = true := by decide +kernel

/-- With counting on, an ordinary state, a word load and a word store, a debug interrupt and an external interrupt; with
counting off, the state after reset. -/
theorem test_witness_PerformanceCounters :
    (let s := counting State.reset
     s.alone ∧ s.pm.enb = true ∧ s.userMode = false ∧ s.reaches .word (s.gpr 0#6 + s.imm 8#9) 8#32 1
      ∧ s.reaches .word (s.gpr 0#6 + s.imm 8#9) 8#32 2 ∧ (s.pm.event.get 0).toNat ∈ decidedEvents)
    ∧ (let s : State := { counting State.reset with dbgPending := true }
       s.boundary.pm.enb = true ∧ s.boundary.debugAccepted = true)
    ∧ (let s : State :=
        { counting (start [] 0x00003081) with psw := 2#32, pins := { State.reset.pins with irqMaster := true } }
      s.boundary.pm.enb = true ∧ s.boundary.debugAccepted = false ∧ s.boundary.fetchBundle = .ok [0x80003081#32]
        ∧ s.boundary.dcError ≠ some 0 ∧ s.boundary.interruptAccepted = true)
    ∧ State.reset.pm.enb = false :=
  ⟨⟨⟨rfl, rfl⟩, rfl, rfl, ⟨by decide, by decide, by decide, .inl (by decide), by decide⟩,
    ⟨by decide, by decide, by decide, .inl (by decide), by decide⟩, by decide⟩, by decide, by decide, rfl⟩

/-- A goto counts a bundle and a taken branch, a syscall an exception, an external interrupt an exception and an
interrupt (61 R684). -/
theorem test_counts :
    after (counting (start [] 0x31000002)) (fun t => t.pm.cnt) = some #v[1, 1, 0, 0]
    ∧ after (counting (start [] 0x9FC12345)) (fun t => t.pm.cnt) = some #v[0, 0, 1, 0]
    ∧ after { counting (start [] 0x00003081) with psw := 2#32, pins := { State.reset.pins with irqMaster := true } }
      (fun t => t.pm.cnt) = some #v[0, 0, 1, 1] := by decide

/-- INTMASK1, TIMECONTROL2, TIMEDIVIDE and DSR3 of the default parameters; DSR3 written in supervisor mode, dropped in
user mode. -/
theorem test_witness_PeripheralStores :
    (State.reset.alone ∧ State.reset.cfg.wf = true)
    ∧ (let s := based 0xFF000018#32
       s.dbreakHit (s.gpr 1#6 + s.imm 0#9) = false ∧ isCRegSpace (s.gpr 1#6 + s.imm 0#9) = false
        ∧ s.tlbEnable = false ∧ s.gpr 1#6 + s.imm 0#9 = s.cfg.intcrBase + BitVec.ofNat 32 (0x10 + 8 * (1 : Fin 2).val))
    ∧ (let s := based 0xFF000240#32
       isCRegSpace (s.gpr 1#6 + s.imm 0#9) = false
        ∧ s.gpr 1#6 + s.imm 0#9 = s.cfg.intcrBase + BitVec.ofNat 32 (0x210 + 0x18 * (2 : Fin 3).val))
    ∧ (let s := based 0xFF000248#32
       isCRegSpace (s.gpr 1#6 + s.imm 0#9) = false ∧ s.gpr 1#6 + s.imm 0#9 = s.cfg.intcrBase + 0x248#32)
    ∧ (let s := based 0xFF002018#32
       isCRegSpace (s.gpr 1#6 + s.imm 0#9) = false
        ∧ s.gpr 1#6 + s.imm 0#9 = s.cfg.dsuBase + BitVec.ofNat 32 (8 * (3 : Fin 32).val)
        ∧ s.userMode = false ∧ s.dsu.supWrite = true)
    ∧ user.userMode = true ∧ user.dsu.userWrite = false := by
  refine ⟨⟨⟨rfl, rfl⟩, by decide⟩, ?_⟩
  decide

/-- DSR0, DSR1 and DSR2 of both variants, with the write enable of the mode set; the host's message waiting to be
sent. -/
theorem test_witness_PeripheralStores_dsu :
    (let s := based 0xFF002000#32
     s.gpr 1#6 + s.imm 0#9 = s.cfg.dsuBase + BitVec.ofNat 32 (8 * (0 : Fin 32).val))
    ∧ (let s := based 0xFF002008#32
       isCRegSpace (s.gpr 1#6 + s.imm 0#9) = false
        ∧ s.gpr 1#6 + s.imm 0#9 = s.cfg.dsuBase + BitVec.ofNat 32 (8 * (1 : Fin 32).val)
        ∧ s.userMode = false ∧ s.dsu.supWrite = true)
    ∧ (let s := based 0xFF002010#32
       s.gpr 1#6 + s.imm 0#9 = s.cfg.dsuBase + BitVec.ofNat 32 (8 * (2 : Fin 32).val)
        ∧ s.cfg.debugVariant = .tapLink ∧ s.dsu.supWrite = true)
    ∧ (let s : State := { based 0xFF002010#32 with cfg := { State.reset.cfg with debugVariant := .jtag } }
       s.alone ∧ s.cfg.wf = true ∧ s.gpr 1#6 + s.imm 0#9 = s.cfg.dsuBase + BitVec.ofNat 32 (8 * (2 : Fin 32).val)
        ∧ s.cfg.debugVariant = .jtag ∧ (s.dsu.outputPending && s.dsu.eventAckPending) = false ∧ s.userMode = false
        ∧ s.dsu.supWrite = true)
    ∧ (let s : State := { State.reset with dsu := { State.reset.dsu with outputPending := true } }
       s.cfg.debugVariant = .tapLink ∧ s.dsu.outputPending = true) := by
  refine ⟨by decide, by decide, by decide, ⟨⟨rfl, rfl⟩, by decide⟩, by decide⟩

/-- DSR1 takes its RW fields only (61 R667); a store to DSR2 while a byte waits leaves the byte (61 R668). -/
theorem test_debug_registers :
    after ((withRegs State.reset [(1, 0xFF002008#32), (2, 0xFFFFFFFF#32)]).withFetchWord 32 0xA5000081)
      (fun t => (t.dsu.swFlags, t.dsu.supWrite, t.dsu.userWrite, t.dsu.triggerOut, t.dsu.triggerEnable))
      = some (0xFFFF#16, true, true, true, true)
    ∧ after ((withRegs { State.reset with dsu := { State.reset.dsu with outputPending := true, linkByte := 0x55#8 } }
        [(1, 0xFF002010#32), (2, 0x1234#32)]).withFetchWord 32 0xA5000081)
      (fun t => (t.dsu.dsr2, t.dsu.linkByte)) = some (0x34#32, 0x55#8) := by decide

/-- Only the JTAG variant acknowledges a host event (61 R673, R674); a reset leaves RESETINPUT as the device drives it (70
R700). -/
theorem test_environment :
    (applyEvent State.reset (.hostEvent 1#3 0#3)).toHost = []
    ∧ (applyEvent { State.reset with cfg := { State.reset.cfg with debugVariant := .jtag } }
        (.hostEvent 1#3 0#3)).toHost = [.eventAck 1#3 0#3]
    ∧ (applyEvent (applyEvent State.reset (.sdiResetInput 1 true)) .resetPin).sdiResetInput 1 = true := by decide

/-- INTPENDING0 of the default parameters, and a load and a store at a bus error. -/
theorem test_witness_PeripheralLoadsAndBusErrors :
    (let s := based 0xFF000000#32
     s.alone ∧ s.dbreakHit (s.gpr 1#6 + s.imm 0#9) = false ∧ isCRegSpace (s.gpr 1#6 + s.imm 0#9) = false
      ∧ Width.misaligned .word (s.gpr 1#6 + s.imm 0#9) = false ∧ s.leadsTo (s.gpr 1#6 + s.imm 0#9) 0xFF000000#32 1
      ∧ inPeripheralBlock s.cfg 0xFF000000#32 = true ∧ periphAt s.cfg 0xFF000000#32 = some (.intPending 0))
    ∧ State.reset.cfg.wf = true
    ∧ (faulty.alone ∧ faulty.reaches .word (faulty.gpr 0#6 + faulty.imm 8#9) 8#32 1
      ∧ busReadError faulty.cfg 8#32 = true)
    ∧ faulty.reaches .word (faulty.gpr 0#6 + faulty.imm 8#9) 8#32 2 ∧ busWriteError faulty.cfg 8#32 = true :=
  ⟨⟨⟨rfl, rfl⟩, by decide, by decide, by decide, .inl (by decide), by decide,
    by decide⟩, by decide, ⟨⟨rfl, rfl⟩, ⟨by decide, by decide, by decide,
    .inl (by decide), by decide⟩, by decide⟩, ⟨by decide, by decide,
    by decide, .inl (by decide), by decide⟩, by decide⟩

/-- A half-word at INTMASK0, a word where no register stands, and a word of the debug ROM. -/
theorem test_witness_PeripheralLoadsAndBusErrors_forms :
    (let s := based 0xFF000010#32
     s.alone ∧ s.dbreakHit (s.gpr 1#6 + s.imm 0#9) = false ∧ isCRegSpace (s.gpr 1#6 + s.imm 0#9) = false
      ∧ inPeripheralBlock s.cfg 0xFF000010#32 = true ∧ Width.misaligned .half (s.gpr 1#6 + s.imm 0#9) = false
      ∧ s.leadsTo (s.gpr 1#6 + s.imm 0#9) 0xFF000010#32 1 ∧ s.leadsTo (s.gpr 1#6 + s.imm 0#9) 0xFF000010#32 2
      ∧ s.scuHit 0xFF000010#32 = true)
    ∧ (let s := based 0xFF000014#32
       periphAt s.cfg 0xFF000014#32 = none ∧ Width.misaligned .word (s.gpr 1#6 + s.imm 0#9) = false
        ∧ s.leadsTo (s.gpr 1#6 + s.imm 0#9) 0xFF000014#32 1 ∧ s.leadsTo (s.gpr 1#6 + s.imm 0#9) 0xFF000014#32 2)
    ∧ (let s := based 0xFF0043FC#32
       periphAt s.cfg 0xFF0043FC#32 = some (.rom 255) ∧ s.leadsTo (s.gpr 1#6 + s.imm 0#9) 0xFF0043FC#32 2)
    ∧ Params.debugRom { State.reset.cfg with debugRom := [7#32] } = [7#32] := by
  refine ⟨⟨⟨rfl, rfl⟩, by decide, by decide, by decide, by decide, .inl (by decide), .inl (by decide), by decide⟩,
    ⟨by decide, by decide, .inl (by decide), .inl (by decide)⟩, ⟨by decide, .inl (by decide)⟩, by decide⟩

/-- A bus error of a half-word and a byte, dismissible too, and a dismissible word at INTMASK0. -/
theorem test_witness_PeripheralLoadsAndBusErrors_part :
    (faulty.reaches .half (faulty.gpr 0#6 + faulty.imm 8#9) 8#32 1 ∧ faulty.scuHit 8#32 = true)
    ∧ faulty.reaches .byte (faulty.gpr 0#6 + faulty.imm 15#9) 15#32 2 ∧ busWriteError faulty.cfg 15#32 = true
    ∧ periphAt State.reset.cfg 0xFF000010#32 = some (.intMask 0) :=
  ⟨⟨⟨by decide, by decide, by decide, .inl (by decide), by decide⟩, by decide⟩,
    ⟨by decide, by decide, by decide, .inl (by decide), by decide⟩, by decide, by decide⟩

/-- Timer 0 enabled with COUNT 5, and timer 1 disabled. -/
theorem test_witness_TimerPeriod :
    let s := State.reset.setTimer 0 { const := 9#32, count := 5#32, enable := true }
    s.timers.presc = 0 ∧ (s.timers.timer.get 0).enable = true ∧ 5 ≤ (s.timers.timer.get 0).count.toNat
      ∧ (s.timers.timer.get 1).enable = false := by decide

/-- A step that leaves something to say answers a next state. -/
theorem next_of_after {α : Type} {s : State} {f : State → α} {x : α} (h : after s f = some x) :
    ∃ t, step s = .next t ∧ f t = x := by
  unfold after at h
  split at h
  · exact ⟨_, by assumption, Option.some.inj h⟩
  · cases h
  · cases h

theorem test_witness_InvariantIsKeptByEveryStep :
    State.reset.Inv ∧ ∃ t, step State.reset = .next t ∧ t.trap.excauseno = 6#5 :=
  ⟨⟨rfl, by decide, by decide, by decide, rfl⟩, next_of_after (by decide)⟩

theorem test_witness_InvariantsHoldAtReset : Memory.wf ⟨[(0, 1#8), (5, 2#8)]⟩ = true := by decide

/-- An event sent and awaiting its acknowledgement, in the JTAG variant. -/
theorem test_witness_DsuInvariantIsKeptByEveryStep :
    State.DsuInv { State.reset with
      cfg := { State.reset.cfg with debugVariant := .jtag }
      dsu := { State.reset.dsu with eventAckPending := true, dsr2 := 0x12345678#32 } } ∧ State.reset.DsuInv ∧ ∃ t, step State.reset = .next t ∧ t.trap.excauseno = 6#5 :=
  ⟨⟨rfl, fun h => (by cases h), fun h => (by cases h)⟩, ⟨rfl, fun _ => rfl, fun _ => rfl⟩,
    next_of_after (by decide)⟩

theorem test_witness_DebugModeOnlyByDebugInterrupt :
    let s : State := { State.reset with dbgPending := true }
    s.psw.getLsbD 12 = false ∧ ∃ t, step s = .next t ∧ t.psw.getLsbD 12 = true :=
  ⟨rfl, next_of_after (by decide)⟩

/-- An add in user mode, with counting off and no user access to port 0; the idle macro in user mode sets IDLE. -/
theorem test_witness_UserModeKeepsSystemRegisters :
    (let s : State := { start [] 0x00003081 with psw := 1#32 }
     s.boundary.psw.getLsbD 0 = true ∧ s.boundary.pm.enb = false ∧ (s.boundary.sdiPort 0).priv ≠ 1#2
      ∧ ∃ t, step s = .next t ∧ t.psw.getLsbD 0 = true)
    ∧ let s : State := { start [] 0x31000000 with psw := 1#32 }
      s.boundary.fetchBundle = .ok [0xB1000000#32]
        ∧ ∃ t, step s = .next t ∧ (t.psw.getLsbD 0, t.pm.idle) = (true, true) :=
  ⟨⟨by decide, by decide, by decide +kernel, next_of_after (by decide)⟩, by decide, next_of_after (by decide +kernel)⟩

/-- By rfi, and by pswset. -/
theorem test_witness_UserModeOnlyByRfiOrPswset :
    (let s : State := { start [] 0x32000000 with trap := { State.reset.trap with savedPsw := 1#32 } }
     s.boundary.psw.getLsbD 0 = false ∧ ∃ t, step s = .next t ∧ t.psw.getLsbD 0 = true)
    ∧ (start [(2, 1#32)] 0x29000080).boundary.psw.getLsbD 0 = false
    ∧ ∃ t, step (start [(2, 1#32)] 0x29000080) = .next t ∧ t.psw.getLsbD 0 = true :=
  ⟨⟨by decide, next_of_after (by decide)⟩, by decide, next_of_after (by decide)⟩

end Sys2Proof.Tests
end

section
/-! The byte order of multi-byte accesses (20 R103): which byte of a value stands at which address, for loads, stores and
instruction fetch. -/

namespace Sys2Proof.Machine

/-- The place, counted from the first address of an access of `n` bytes, of byte `k` of the value (20 R103). -/
def bytePlace (big : Bool) (n k : Nat) : Nat := if big then n - 1 - k else k

theorem bytePlace_lt {big : Bool} {n k : Nat} (h : k < n) : bytePlace big n k < n := by
  unfold bytePlace; split <;> omega

/-- Each byte order is its own inverse: the byte that stands at place `j` is the one whose place is `j`. -/
theorem bytePlace_bytePlace {big : Bool} {n k : Nat} (h : k < n) : bytePlace big n (bytePlace big n k) = k := by
  unfold bytePlace; split <;> omega

theorem Width.bytes_le_four (w : Width) : w.bytes ≤ 4 := by cases w <;> decide

/-- Addresses wrap at 2^32, so places less than 2^32 apart are different bytes. -/
theorem byteAddr_inj {pa : Word} {j k : Nat} (hj : j < 2 ^ 32) (hk : k < 2 ^ 32) :
    byteAddr pa j = byteAddr pa k ↔ j = k := by
  simp only [byteAddr, BitVec.toNat_inj, BitVec.add_right_inj]
  rw [← BitVec.toNat_inj, BitVec.toNat_ofNat, BitVec.toNat_ofNat, Nat.mod_eq_of_lt hj, Nat.mod_eq_of_lt hk]

/-! ### Loads

The widths of appended bytes stay sums below (`-Nat.reduceAdd`), the form in which the library's lemmas on a part of an
append apply. -/

/-- Byte `k` of the zero-extended half-word two bytes make is the byte at its place. -/
theorem wordByte_halfOfBytes (big : Bool) (b : Nat → Byte) {k : Nat} (h : k < 2) :
    wordByte ((if big then b 0 ++ b 1 else b 1 ++ b 0 : BitVec 16).setWidth 32) k = b (bytePlace big 2 k) := by
  rw [wordByte, BitVec.extractLsb'_setWidth_of_le (by omega)]
  cases big <;> interval_cases k <;>
    simp [-Nat.reduceAdd, bytePlace, BitVec.extractLsb'_append_eq_of_le, BitVec.extractLsb'_append_eq_of_add_le]

/-- Byte `k` of the word four bytes make is the byte at its place. -/
theorem wordByte_wordOfBytes (big : Bool) (b : Nat → Byte) {k : Nat} (h : k < 4) :
    wordByte (wordOfBytes big (b 0) (b 1) (b 2) (b 3)) k = b (bytePlace big 4 k) := by
  cases big <;> interval_cases k <;>
    simp [-Nat.reduceAdd, wordByte, wordOfBytes, bytePlace, BitVec.extractLsb'_append_eq_of_le,
      BitVec.extractLsb'_append_eq_of_add_le]

/-- Byte `k` of a loaded value is the byte of memory at its place (20 R103). -/
theorem Memory.wordByte_load (m : Memory) (big : Bool) (pa : Word) {w : Width} {k : Nat} (h : k < w.bytes) :
    wordByte (m.load big pa w) k = m.read (byteAddr pa (bytePlace big w.bytes k)) := by
  cases w with
  | byte =>
    obtain rfl : k = 0 := Nat.lt_one_iff.mp h
    cases big <;> simp [wordByte, Memory.load, bytePlace, Width.bytes, BitVec.extractLsb'_setWidth_of_le]
  | half => exact wordByte_halfOfBytes big (fun j => m.read (byteAddr pa j)) h
  | word => exact wordByte_wordOfBytes big (fun j => m.read (byteAddr pa j)) h

/-- A loaded value is zero-extended: it fits in the bytes loaded. -/
theorem Memory.load_lt (m : Memory) (big : Bool) (pa : Word) (w : Width) :
    (m.load big pa w).toNat < 2 ^ (8 * w.bytes) := by
  cases w with
  | byte => exact (BitVec.toNat_setWidth_of_le (by decide)).trans_lt (BitVec.isLt _)
  | half => exact (BitVec.toNat_setWidth_of_le (by decide)).trans_lt (BitVec.isLt _)
  | word => exact (m.load big pa .word).isLt

/-! ### Stores -/

/-- `n` bytes written at consecutive addresses, `b j` at place `j`. -/
def Memory.writeBytes (m : Memory) (pa : Word) (b : Nat → Byte) : Nat → Memory
  | 0 => m
  | n + 1 => (m.writeBytes pa b n).write (byteAddr pa n) (b n)

/-- A store writes each byte of the value at its place (20 R103). -/
theorem Memory.store_eq_writeBytes (m : Memory) (big : Bool) (pa : Word) (w : Width) (v : Word) :
    m.store big pa w v = m.writeBytes pa (fun j => wordByte v (bytePlace big w.bytes j)) w.bytes := by
  cases w <;> cases big <;> rfl

theorem Memory.wf_writeBytes {m : Memory} (h : m.wf = true) (pa : Word) (b : Nat → Byte) :
    ∀ n, (m.writeBytes pa b n).wf = true
  | 0 => h
  | n + 1 => Memory.wf_write (Memory.wf_writeBytes h pa b n) (byteAddr_lt pa n) (b n)

theorem Memory.read_writeBytes {m : Memory} (hm : m.wf = true) (pa : Word) (b : Nat → Byte) {j n : Nat} (hj : j < n)
    (hn : n ≤ 2 ^ 32) : (m.writeBytes pa b n).read (byteAddr pa j) = b j := by
  induction n with
  | zero => omega
  | succ n ih =>
    by_cases hjn : j = n
    · rw [hjn]
      exact Memory.read_write_same (Memory.wf_writeBytes hm pa b n) _ _
    · have hne : byteAddr pa j ≠ byteAddr pa n := mt (byteAddr_inj (by omega) (by omega)).mp hjn
      exact (Memory.read_write_other _ hne _).trans (ih (by omega) (by omega))

/-- After a store, place `j` of the access holds the byte of the value whose place it is. -/
theorem Memory.read_store_byteAddr {m : Memory} (hm : m.wf = true) (big : Bool) (pa : Word) {w : Width} (v : Word)
    {j : Nat} (h : j < w.bytes) :
    (m.store big pa w v).read (byteAddr pa j) = wordByte v (bytePlace big w.bytes j) := by
  rw [Memory.store_eq_writeBytes]
  exact Memory.read_writeBytes hm pa _ h (w.bytes_le_four.trans (by decide))

/-! ### Instruction fetch -/

/-- Outside the peripheral block and without a bus error, a fetch reads its word as a load does. -/
theorem State.fetchPhysical_memory {s : State} {pa : Word} (hp : inPeripheralBlock s.cfg pa = false)
    (hb : busReadError s.cfg pa = false) :
    s.fetchPhysical pa = some (s.mem.load s.cfg.bigEndian pa .word) := by
  simp [State.fetchPhysical, hp, hb]

/-- Settles O22: loads by `wordByte_load` and `load_lt`, stores by `read_store_byteAddr` at the place of byte `k`, fetch
by `fetchPhysical_memory`. -/
theorem multiByteValuesFollowTheByteOrder : Obligations.MultiByteValuesFollowTheByteOrder := by
  refine ⟨fun m big pa w k hk => ⟨m.wordByte_load big pa hk, m.load_lt big pa w⟩, fun m big pa w v k hm hk => ?_,
    fun s pa => State.fetchPhysical_memory⟩
  have hplace := Memory.read_store_byteAddr hm big pa v (bytePlace_lt (big := big) hk)
  rwa [bytePlace_bytePlace hk] at hplace

end Sys2Proof.Machine
end

section
/-! The placement of operations in a bundle (30 R219, R227) and privileged operations in user mode (30 R228): what a
bundle without a flaw keeps to, and what an operation that throws in a bundle of its own does. -/

namespace Sys2Proof.Machine

/-! ### Placement -/

/-- A check that reports `a` finds nothing exactly when its condition fails and the checks after it find nothing. -/
theorem ite_some_eq_none_iff {α : Type} {c : Prop} [Decidable c] {a : α} {rest : Option α} :
    (if c then some a else rest) = none ↔ ¬ c ∧ rest = none := by
  by_cases h : c <;> simp [h]

/-- In a bundle without a flaw only the first syllable can be one that must be first (30 R219). -/
theorem firstOnly_of_mem_tail {pc : Word} {ops : List Instr} (h : bundleFlaw pc ops = none) {i : Instr}
    (hi : i ∈ ops.tail) : (opInfo i).firstOnly = false := by
  simp only [bundleFlaw, ite_some_eq_none_iff] at h
  obtain ⟨hfirst, -⟩ := h
  simpa using List.any_eq_false.mp (Bool.eq_false_of_not_eq_true hfirst) i hi

/-- In a bundle without a flaw an operation that must be alone is the only one (30 R227). -/
theorem length_eq_one_of_alone {pc : Word} {ops : List Instr} (h : bundleFlaw pc ops = none) {i : Instr}
    (hi : i ∈ ops) (ha : (opInfo i).alone = true) : ops.length = 1 := by
  simp only [bundleFlaw, ite_some_eq_none_iff] at h
  obtain ⟨-, -, -, -, -, -, -, -, -, hlength, -⟩ := h
  have hany : (ops.any fun i => (opInfo i).alone) = true := List.any_eq_true.mpr ⟨i, hi, ha⟩
  have hle : ¬ 1 < ops.length := by simpa [hany] using hlength
  have hpos : 0 < ops.length := List.length_pos_of_mem hi
  omega

/-- Settles O8: that the bundle has no flaw contradicts `firstOnly_of_mem_tail` in the first part, and
`length_eq_one_of_alone` in the second. -/
theorem misplacedOperationsMakeABundleIllegal : Obligations.MisplacedOperationsMakeABundleIllegal := by
  constructor
  · intro pc before after i hbefore hi
    have hfirst : (opInfo i).firstOnly = true := by
      rcases hi with ⟨_, _, rfl⟩ | ⟨_, _, rfl⟩ | ⟨_, rfl⟩ | rfl | ⟨_, rfl⟩ | rfl | rfl | ⟨_, rfl⟩ | ⟨_, rfl⟩
      all_goals rfl
    have htail : i ∈ (before ++ i :: after).tail := by simp [List.tail_append_of_ne_nil hbefore]
    refine Option.ne_none_iff_exists'.mp fun hnone => ?_
    simp [firstOnly_of_mem_tail hnone htail] at hfirst
  · intro pc before after i hcompany hi
    have halone : (opInfo i).alone = true := by rcases hi with rfl | ⟨_, rfl⟩ <;> rfl
    refine Option.ne_none_iff_exists'.mp fun hnone => ?_
    have hlen : (before ++ i :: after).length = 1 := length_eq_one_of_alone hnone (by simp) halone
    rw [List.length_append, List.length_cons] at hlen
    rcases hcompany with hne | hne
    · have := List.length_pos_of_ne_nil hne; omega
    · have := List.length_pos_of_ne_nil hne; omega

/-! ### Exception entry -/

/-- Exception entry writes TLB_EXCAUSE and nothing else of the MMU (60 R510). -/
theorem State.takeException_mmu (s : State) (r : Raised) :
    (s.takeException r).mmu = { s.mmu with tlbExcause := (r.tlb.map fun x => x.word).getD s.mmu.tlbExcause } := by
  cases h : r.tlb <;> simp [State.takeException, h]

theorem Cause.number_lt (c : Cause) : c.number < 2 ^ 5 := by cases c <;> decide

/-- Time passing leaves what PM_CR controls as it was (61 R680). -/
theorem Perf.advance_control (p : Perf) (t : PmTally) (c : Bool) (oracle : Nat) :
    (p.advance t c oracle).enb = p.enb ∧ (p.advance t c oracle).idle = p.idle
      ∧ (p.advance t c oracle).event = p.event := by
  unfold Perf.advance
  split <;> exact ⟨rfl, rfl, rfl⟩

/-- Exception entry is what `Traps` says, if only a TLB exception carries a TLB record (60 R506, R507). -/
theorem State.takeException_traps (s : State) (r : Raised)
    (htlb : r.cause ≠ .itlb → r.cause ≠ .dtlb → r.tlb = none) :
    Traps r.cause r.exceptAddress s (s.takeException r) where
  excauseno := (BitVec.toNat_ofNat _ _).trans (Nat.mod_eq_of_lt r.cause.number_lt)
  exaddress := rfl
  savedPsw := rfl
  savedPc := rfl
  savedSaved := ⟨rfl, rfl⟩
  handlerPc := rfl
  scratch := ⟨rfl, rfl, rfl, rfl⟩
  psw := rfl
  pc := rfl
  gprs := rfl
  branches := rfl
  memory := rfl
  sdi := rfl
  breakpoints := rfl
  devices := ⟨rfl, rfl, rfl⟩
  mmuOther := by rw [State.takeException_mmu]
  tlbExcause := fun hi hd => by simp [State.takeException_mmu, htlb hi hd]
  pmControl := s.pm.advance_control (exceptionTally r.cause) true s.oracle
  pmCounters := s.pm.advance_off (exceptionTally r.cause) true s.oracle
  outside := ⟨rfl, rfl, rfl, rfl, rfl⟩
  bundle := rfl

/-! ### Operations that throw -/

/-- An operation that throws, alone in its bundle, takes its exception (60 R505). -/
theorem trapsOn_of_raised {i : Instr} {s : State} {e : Effect} {r : Raised} (hexec : exec i s = issue e s)
    (halone : s.alone) (hr : e.raised = some r) (htlb : r.cause ≠ .itlb → r.cause ≠ .dtlb → r.tlb = none) :
    TrapsOn i s r.cause r.exceptAddress := by
  obtain ⟨hissue, hpending⟩ := halone
  refine ⟨s.takeException r, ?_, s.takeException_traps r htlb⟩
  rw [hexec, issue_last e s hissue hpending, s.finishBundle_raise e r hr]

/-- In user mode a privileged operation throws ILL_INST (30 R228). -/
theorem State.privileged_raised {s : State} (hu : s.userMode = true) (e : Effect) :
    (s.privileged e).raised = some { cause := .illInst } := by
  simp [State.privileged, hu]

/-- An operation whose effect is privileged takes ILL_INST in user mode, alone in its bundle (30 R228). -/
theorem trapsOn_of_privileged {i : Instr} {s : State} {e : Effect} (hexec : exec i s = issue (s.privileged e) s)
    (halone : s.alone) (hu : s.userMode = true) : TrapsOn i s .illInst 0#32 :=
  trapsOn_of_raised hexec halone (s.privileged_raised hu e) fun _ _ => rfl

/-- Settles O34: each of the five issues a privileged effect. -/
theorem privilegedOperationsTrapInUserMode : Obligations.PrivilegedOperationsTrapInUserMode := by
  intro s r i halone hu
  have hrfi : TrapsOn .rfi s .illInst 0#32 := trapsOn_of_privileged rfl halone hu
  have hpswset : TrapsOn (.pswset r) s .illInst 0#32 := trapsOn_of_privileged rfl halone hu
  have hpswclr : TrapsOn (.pswclr r) s .illInst 0#32 := trapsOn_of_privileged rfl halone hu
  have hprgins : TrapsOn .prgins s .illInst 0#32 := trapsOn_of_privileged rfl halone hu
  have hprginspg : TrapsOn (.prginspg r i) s .illInst 0#32 := trapsOn_of_privileged rfl halone hu
  exact ⟨hrfi, hpswset, hpswclr, hprgins, hprginspg⟩

end Sys2Proof.Machine
end

section
/-! How a bundle of one operation that writes registers commits, and what it leaves unchanged (60 R505; 70 R720). -/

namespace Sys2Proof.Machine

/-! ### What moving past the bundle and writing a register keep -/

/-- The commit point moves the PC, the counters and the model's own fields, and nothing else of the system. -/
theorem KeepsSystem.advance (s : State) (es : List Effect) : KeepsSystem s (s.advance es) where
  cfg := rfl
  psw := rfl
  trap := rfl
  mmu := rfl
  brk := rfl
  pmControl := s.pm.advance_control _ _ s.oracle
  pmCounters := s.pm.advance_off _ _ s.oracle
  sdi := rfl
  intc := rfl
  timers := rfl
  dsu := rfl
  pins := rfl
  dbgPending := rfl
  dcError := rfl
  inputs := rfl
  toHost := rfl
  bundle := rfl

theorem KeepsSystem.setGpr {s t : State} (h : KeepsSystem s t) (d : RegNum) (v : Word) :
    KeepsSystem s (t.setGpr d v) := by
  unfold State.setGpr
  split
  · exact h
  · exact { h with }

theorem KeepsSystem.setBr {s t : State} (h : KeepsSystem s t) (b : BrNum) (c : Bool) :
    KeepsSystem s (t.setBr b c) := { h with }

theorem State.advance_onlyAdvances (s : State) (es : List Effect) : OnlyAdvances s (s.advance es) where
  gprs := State.gpr_congr (s.advance_regs es)
  branches := State.br_congr (s.advance_branch es)
  pc := s.advance_pc es
  memory _ := rfl
  system := .advance s es

theorem OnlyAdvances.setGpr {s t : State} (h : OnlyAdvances s t) (d : RegNum) (v : Word) :
    WritesGpr d v s (t.setGpr d v) where
  result := t.gpr_setGpr_same d v
  others r hr := (t.gpr_setGpr_other v hr).trans (h.gprs r)
  branches c := (State.br_congr (t.setGpr_branch d v) c).trans (h.branches c)
  pc := (t.setGpr_pc d v).trans h.pc
  memory a := (congrArg (·.read a) (t.setGpr_mem d v)).trans (h.memory a)
  system := h.system.setGpr d v

theorem WritesGpr.setBr {s t : State} {d : RegNum} {v : Word} (h : WritesGpr d v s t) (b : BrNum) (c : Bool) :
    WritesGprBranch d v b c s (t.setBr b c) where
  gprResult := (State.gpr_congr (t.setBr_regs b c) d).trans h.result
  brResult := t.br_setBr_same b c
  otherGprs r hr := (State.gpr_congr (t.setBr_regs b c) r).trans (h.others r hr)
  otherBranches q hq := (t.br_setBr_other c hq).trans (h.branches q)
  pc := h.pc
  memory := h.memory
  system := h.system.setBr b c

/-! ### Operations alone in their bundle -/

/-- An operation that neither throws nor waits, alone in its bundle, commits its assignments (60 R505). -/
theorem completes_of_issue {i : Instr} {s : State} {e : Effect} {P : State → Prop} (hexec : exec i s = issue e s)
    (halone : s.alone) (hr : e.raised = none) (hs : e.stall = none)
    (hP : P (e.writes.foldl applyWrite (s.advance [e]))) : Completes i s P := by
  obtain ⟨hissue, hpending⟩ := halone
  refine ⟨_, ?_, hP⟩
  rw [hexec, issue_last e s hissue hpending, s.finishBundle_retire e hr hs, s.retire_single]

/-- An operation whose one assignment is to a general register writes it and nothing else. -/
theorem completes_writesGpr {i : Instr} {s : State} {kind : OpKind} {d : RegNum} {v : Word}
    (hexec : exec i s = issue { kind := kind, writes := [.gpr d v] } s) (halone : s.alone) :
    Completes i s (WritesGpr d v s) :=
  completes_of_issue hexec halone rfl rfl ((s.advance_onlyAdvances _).setGpr d v)

/-- An operation that assigns a general and a branch register writes the two and nothing else. -/
theorem completes_writesGprBranch {i : Instr} {s : State} {d : RegNum} {v : Word} {b : BrNum} {c : Bool}
    (hexec : exec i s = issue (gprBrEffect d v b c) s) (halone : s.alone) :
    Completes i s (WritesGprBranch d v b c s) :=
  completes_of_issue hexec halone rfl rfl (((s.advance_onlyAdvances _).setGpr d v).setBr b c)

end Sys2Proof.Machine
end

section
/-! The words of the Integer format with bit 26 = 0 and of addcg and divs: their fields, and what they decode to (30
R206, R211, R213). The widths of appended bytes stay sums (`-Nat.reduceAdd`), the form in which the library's lemmas on
a part of an append apply. -/

namespace Sys2Proof.Machine

/-! ### Register words -/

theorem regWord_fields (stop b26 : BitVec 1) (opc : BitVec 5) (d s2 s1 : RegNum) :
    fieldDest (regWord stop b26 opc d s2 s1) = d ∧ fieldSrc2 (regWord stop b26 opc d s2 s1) = s2
      ∧ fieldSrc1 (regWord stop b26 opc d s2 s1) = s1 ∧ (regWord stop b26 opc d s2 s1).extractLsb' 21 5 = opc
      ∧ (regWord stop b26 opc d s2 s1).extractLsb' 18 3 = 0#3 := by
  simp [-Nat.reduceAdd, fieldDest, fieldSrc2, fieldSrc1, regWord, BitVec.extractLsb'_append_eq_of_le,
    BitVec.extractLsb'_append_eq_of_add_le]

/-- Bits 30:26 of a register word select the table its opcode is looked up in (30 R210, R211). -/
theorem regWord_format (stop b26 : BitVec 1) (opc : BitVec 5) (d s2 s1 : RegNum) :
    (regWord stop b26 opc d s2 s1).getLsbD 30 = false ∧ (regWord stop b26 opc d s2 s1).extractLsb' 28 2 = 0#2
      ∧ (regWord stop b26 opc d s2 s1).getLsbD 27 = false
      ∧ (regWord stop b26 opc d s2 s1).getLsbD 26 = b26.getLsbD 0 := by
  refine ⟨?_, ?_, ?_, ?_⟩
  · simp only [regWord, BitVec.getLsbD_append]; rfl
  · simp [-Nat.reduceAdd, regWord, BitVec.extractLsb'_append_eq_of_le, BitVec.extractLsb'_append_eq_of_add_le]
  · simp only [regWord, BitVec.getLsbD_append]; rfl
  · simp only [regWord, BitVec.getLsbD_append]; rfl

/-- The register forms of the Integer format (30 R211). -/
theorem decodeSyllable_regWord {opc : BitVec 5} {op : RegNum → RegNum → RegNum → Instr}
    (hop : int3ROp opc.toNat = some op) (stop : BitVec 1) (d s2 s1 : RegNum) :
    decodeSyllable (regWord stop 0#1 opc d s2 s1) = .ok (op d s1 s2) := by
  obtain ⟨hdest, hsrc2, hsrc1, hopc, hunused⟩ := regWord_fields stop 0#1 opc d s2 s1
  obtain ⟨h30, h28, h27, h26⟩ := regWord_format stop 0#1 opc d s2 s1
  simp [-BitVec.getLsbD_eq_getElem, decodeSyllable, decodeInteger, decodeInt3R, whenZero, *]

/-! ### Immediate words -/

theorem immWord_fields (stop b26 : BitVec 1) (opc : BitVec 5) (i : BitVec 9) (d s1 : RegNum) :
    fieldIsrc2 (immWord stop b26 opc i d s1) = i ∧ fieldIdest (immWord stop b26 opc i d s1) = d
      ∧ fieldSrc1 (immWord stop b26 opc i d s1) = s1 ∧ (immWord stop b26 opc i d s1).extractLsb' 21 5 = opc := by
  simp [-Nat.reduceAdd, fieldIsrc2, fieldIdest, fieldSrc1, immWord, BitVec.extractLsb'_append_eq_of_le,
    BitVec.extractLsb'_append_eq_of_add_le]

/-- Bits 30:26 of an immediate word select the table its opcode is looked up in (30 R210, R211). -/
theorem immWord_format (stop b26 : BitVec 1) (opc : BitVec 5) (i : BitVec 9) (d s1 : RegNum) :
    (immWord stop b26 opc i d s1).getLsbD 30 = false ∧ (immWord stop b26 opc i d s1).extractLsb' 28 2 = 0#2
      ∧ (immWord stop b26 opc i d s1).getLsbD 27 = true
      ∧ (immWord stop b26 opc i d s1).getLsbD 26 = b26.getLsbD 0 := by
  refine ⟨?_, ?_, ?_, ?_⟩
  · simp only [immWord, BitVec.getLsbD_append]; rfl
  · simp [-Nat.reduceAdd, immWord, BitVec.extractLsb'_append_eq_of_le, BitVec.extractLsb'_append_eq_of_add_le]
  · simp only [immWord, BitVec.getLsbD_append]; rfl
  · simp only [immWord, BitVec.getLsbD_append]; rfl

/-- The immediate forms of the Integer format; OPC 01110, the Monadic format's, is in no row of their table (30 R211). -/
theorem decodeSyllable_immWord {opc : BitVec 5} {op : RegNum → RegNum → BitVec 9 → Instr}
    (hop : int3IOp opc.toNat = some op) (stop : BitVec 1) (i : BitVec 9) (d s1 : RegNum) :
    decodeSyllable (immWord stop 0#1 opc i d s1) = .ok (op d s1 i) := by
  have hmonadic : opc ≠ 0b01110#5 := by rintro rfl; cases hop
  obtain ⟨hisrc2, hdest, hsrc1, hopc⟩ := immWord_fields stop 0#1 opc i d s1
  obtain ⟨h30, h28, h27, h26⟩ := immWord_format stop 0#1 opc i d s1
  simp [-BitVec.getLsbD_eq_getElem, decodeSyllable, decodeInteger, decodeInt3I, *]

/-- The Monadic format, whose sub-opcode stands where ISRC2 does (30 R211). -/
theorem decodeSyllable_monadic {sub : BitVec 9} {op : RegNum → RegNum → Instr}
    (hop : monadicOp sub.toNat = some op) (stop : BitVec 1) (d s1 : RegNum) :
    decodeSyllable (immWord stop 0#1 0b01110#5 sub d s1) = .ok (op d s1) := by
  obtain ⟨hsub, hdest, hsrc1, hopc⟩ := immWord_fields stop 0#1 0b01110#5 sub d s1
  obtain ⟨h30, h28, h27, h26⟩ := immWord_format stop 0#1 0b01110#5 sub d s1
  rw [fieldIsrc2] at hsub
  simp [-BitVec.getLsbD_eq_getElem, decodeSyllable, decodeInteger, decodeInt3I, *]

/-! ### addcg and divs -/

/-- The format of addcg and divs: bits 27:24, the branch source and destination, and three general registers (30 R213). -/
def carryWord (stop : BitVec 1) (opc : BitVec 4) (c b : BrNum) (d s2 s1 : RegNum) : Word :=
  stop ++ 0#1 ++ 0b01#2 ++ opc ++ c ++ b ++ d ++ s2 ++ s1

theorem carryWord_fields (stop : BitVec 1) (opc : BitVec 4) (c b : BrNum) (d s2 s1 : RegNum) :
    fieldScond (carryWord stop opc c b d s2 s1) = c ∧ fieldBdest (carryWord stop opc c b d s2 s1) = b
      ∧ fieldDest (carryWord stop opc c b d s2 s1) = d ∧ fieldSrc2 (carryWord stop opc c b d s2 s1) = s2
      ∧ fieldSrc1 (carryWord stop opc c b d s2 s1) = s1
      ∧ (carryWord stop opc c b d s2 s1).extractLsb' 24 4 = opc := by
  simp [-Nat.reduceAdd, fieldScond, fieldBdest, fieldDest, fieldSrc2, fieldSrc1, carryWord,
    BitVec.extractLsb'_append_eq_of_le, BitVec.extractLsb'_append_eq_of_add_le]

/-- Bits 30:28 of the word select the Specific format (30 R210). -/
theorem carryWord_format (stop : BitVec 1) (opc : BitVec 4) (c b : BrNum) (d s2 s1 : RegNum) :
    (carryWord stop opc c b d s2 s1).getLsbD 30 = false ∧ (carryWord stop opc c b d s2 s1).extractLsb' 28 2 = 1#2 := by
  refine ⟨?_, ?_⟩
  · simp only [carryWord, BitVec.getLsbD_append]; rfl
  · simp [-Nat.reduceAdd, carryWord, BitVec.extractLsb'_append_eq_of_le, BitVec.extractLsb'_append_eq_of_add_le]

theorem decodeSyllable_addcg (stop : BitVec 1) (c b : BrNum) (d s2 s1 : RegNum) :
    decodeSyllable (carryWord stop 0b0010#4 c b d s2 s1) = .ok (.addcg d b c s1 s2) := by
  obtain ⟨hscond, hbdest, hdest, hsrc2, hsrc1, hopc⟩ := carryWord_fields stop 0b0010#4 c b d s2 s1
  obtain ⟨h30, h28⟩ := carryWord_format stop 0b0010#4 c b d s2 s1
  simp [-BitVec.getLsbD_eq_getElem, decodeSyllable, decodeSpecific, *]

theorem decodeSyllable_divs (stop : BitVec 1) (c b : BrNum) (d s2 s1 : RegNum) :
    decodeSyllable (carryWord stop 0b0100#4 c b d s2 s1) = .ok (.divs d b c s1 s2) := by
  obtain ⟨hscond, hbdest, hdest, hsrc2, hsrc1, hopc⟩ := carryWord_fields stop 0b0100#4 c b d s2 s1
  obtain ⟨h30, h28⟩ := carryWord_format stop 0b0100#4 c b d s2 s1
  simp [-BitVec.getLsbD_eq_getElem, decodeSyllable, decodeSpecific, *]

end Sys2Proof.Machine
end

section
/-! The values the integer operations write (40 R251 to R275), as operations on words. -/

namespace Sys2Proof.Machine

/-! ### `Register` of an integer (00 R11) -/

@[simp] theorem register_add (x y : Int) : register (x + y) = register x + register y := BitVec.ofInt_add ..

@[simp] theorem register_sub (x y : Int) : register (x - y) = register x - register y := by
  simp [register, Int.sub_eq_add_neg, BitVec.ofInt_add, BitVec.ofInt_neg, BitVec.sub_eq_add_neg]

@[simp] theorem register_mul (x y : Int) : register (x * y) = register x * register y := BitVec.ofInt_mul ..

@[simp] theorem register_natCast (n : Nat) : register n = BitVec.ofNat 32 n := BitVec.ofInt_natCast ..

@[simp] theorem register_sext32 (a : Word) : register (sext32 a) = a := BitVec.ofInt_toInt

@[simp] theorem register_zext32 (a : Word) : register (zext32 a) = a := by simp [zext32]

/-- Multiplying by a power of two shifts left, modulo 2^32. -/
theorem register_sext32_mul_two_pow (a : Word) (n : Nat) : register (sext32 a * 2 ^ n) = a <<< n := by
  have hpow : register (2 ^ n) = BitVec.twoPow 32 n := by
    rw [← Nat.cast_ofNat, ← Nat.cast_pow, register_natCast]
    exact BitVec.eq_of_toNat_eq (by simp)
  rw [register_mul, register_sext32, hpow, BitVec.mul_twoPow_eq_shiftLeft]

/-! ### Comparisons of register values -/

theorem sext32_lt_iff (a b : Word) : sext32 a < sext32 b ↔ a.slt b = true := BitVec.slt_iff_toInt_lt.symm

theorem zext32_lt_iff (a b : Word) : zext32 a < zext32 b ↔ a.ult b = true :=
  Int.ofNat_lt.trans BitVec.ult_iff_toNat_lt.symm

theorem sext32_neg_iff (a : Word) : sext32 a < 0 ↔ a.msb = true := by
  rw [BitVec.msb_eq_toInt, decide_eq_true_iff, sext32]

/-! ### Sums and differences -/

theorem addValue_eq (a b : Word) : addValue a b = a + b := by simp [addValue]

theorem subValue_eq (a b : Word) : subValue a b = b - a := by simp [subValue]

/-- A shift by a constant and an addition, the common form of sh1add to sh4add (40 R256 to R259). -/
theorem register_shift_add (a b : Word) (n : Nat) : register (sext32 a * 2 ^ n + sext32 b) = (a <<< n) + b := by
  rw [register_add, register_sext32, register_sext32_mul_two_pow]

theorem sh1addValue_eq (a b : Word) : sh1addValue a b = (a <<< 1) + b := register_shift_add a b 1

theorem sh2addValue_eq (a b : Word) : sh2addValue a b = (a <<< 2) + b := register_shift_add a b 2

theorem sh3addValue_eq (a b : Word) : sh3addValue a b = (a <<< 3) + b := register_shift_add a b 3

theorem sh4addValue_eq (a b : Word) : sh4addValue a b = (a <<< 4) + b := register_shift_add a b 4

/-! ### Shifts -/

/-- The shift amount is the low 8 bits of the second operand (40 R253). -/
theorem zext8_eq (b : Word) : zext8 b = (b.toNat % 256 : Nat) := by rw [zext8, BitVec.toNat_setWidth]

theorem shlValue_eq (a b : Word) :
    shlValue a b = if 31 < b.toNat % 256 then 0#32 else a <<< (b.toNat % 256) := by
  have hlong : zext8 b > 31 ↔ 31 < b.toNat % 256 := by rw [zext8_eq]; omega
  simp only [shlValue, hlong, register_sext32_mul_two_pow]
  rw [zext8_eq, Int.toNat_natCast]

theorem shrValue_eq (a b : Word) : shrValue a b = a.sshiftRight (b.toNat % 256) := by
  rw [shrValue, zext8_eq, Int.toNat_natCast, BitVec.sshiftRight_eq, register, sext32]

theorem shruValue_eq (a b : Word) : shruValue a b = a >>> (b.toNat % 256) := by
  have hshift (n : Nat) : zext32 a >>> n = ((a >>> n).toNat : Int) := by rw [BitVec.toNat_ushiftRight]; rfl
  rw [shruValue, zext8_eq, Int.toNat_natCast, hshift, register_natCast, BitVec.ofNat_toNat, BitVec.setWidth_eq]

/-! ### Bitwise operations, maximum and minimum -/

theorem andValue_eq (a b : Word) : andValue a b = a &&& b := rfl

theorem andcValue_eq (a b : Word) : andcValue a b = ~~~a &&& b := rfl

theorem orValue_eq (a b : Word) : orValue a b = a ||| b := rfl

theorem orcValue_eq (a b : Word) : orcValue a b = ~~~a ||| b := rfl

theorem xorValue_eq (a b : Word) : xorValue a b = a ^^^ b := rfl

/-- Choosing between two words as signed integers chooses the word. -/
theorem register_ite_sext32 (c : Prop) [Decidable c] (a b : Word) :
    register (if c then sext32 a else sext32 b) = if c then a else b := by
  rw [apply_ite register, register_sext32, register_sext32]

/-- Choosing between two words as unsigned integers chooses the word. -/
theorem register_ite_zext32 (c : Prop) [Decidable c] (a b : Word) :
    register (if c then zext32 a else zext32 b) = if c then a else b := by
  rw [apply_ite register, register_zext32, register_zext32]

theorem maxValue_eq (a b : Word) : maxValue a b = if b.slt a then a else b := by
  simp only [maxValue, register_ite_sext32, gt_iff_lt, sext32_lt_iff]

theorem maxuValue_eq (a b : Word) : maxuValue a b = if b.ult a then a else b := by
  simp only [maxuValue, register_ite_zext32, gt_iff_lt, zext32_lt_iff]

theorem minValue_eq (a b : Word) : minValue a b = if a.slt b then a else b := by
  simp only [minValue, register_ite_sext32, sext32_lt_iff]

theorem minuValue_eq (a b : Word) : minuValue a b = if a.ult b then a else b := by
  simp only [minuValue, register_ite_zext32, zext32_lt_iff]

/-! ### Monadic operations -/

theorem sxtbValue_eq (a : Word) : sxtbValue a = (a.setWidth 8).signExtend 32 := rfl

theorem sxthValue_eq (a : Word) : sxthValue a = (a.setWidth 16).signExtend 32 := rfl

theorem bswapValue_eq (a : Word) :
    bswapValue a = a.extractLsb' 0 8 ++ a.extractLsb' 8 8 ++ a.extractLsb' 16 8 ++ a.extractLsb' 24 8 := rfl

/-- The zero-extended low half-word is the word with its high half-word masked off. -/
theorem zxthValue_eq (a : Word) : zxthValue a = a &&& 0xFFFF#32 := by
  have hmask : a.toNat &&& 0xFFFF = a.toNat % 2 ^ 16 := Nat.and_two_pow_sub_one_eq_mod a.toNat 16
  apply BitVec.eq_of_toNat_eq
  rw [zxthValue, zext16, register_natCast, BitVec.toNat_and, BitVec.toNat_ofNat, BitVec.toNat_setWidth,
    BitVec.toNat_ofNat, hmask]
  omega

/-- The model counts down from bit `n` as the library does. -/
theorem leadingZerosBelow_succ (a : Word) (n : Nat) :
    BitVec.ofNat 32 (leadingZerosBelow a (n + 1)) = a.clzAuxRec n := by
  induction n with
  | zero => rw [BitVec.clzAuxRec_zero, ← apply_ite (BitVec.ofNat 32)]; rfl
  | succ n ih => rw [leadingZerosBelow, BitVec.clzAuxRec_succ, apply_ite (BitVec.ofNat 32), ih]

theorem clzValue_eq (a : Word) : clzValue a = a.clz := leadingZerosBelow_succ a 31

/-! ### Carry and divide step -/

theorem boolInt_eq (c : Bool) : boolInt c = (c.toNat : Int) := by cases c <;> rfl

theorem boolWord_eq (c : Bool) : boolWord c = (BitVec.ofBool c).setWidth 32 := by cases c <;> rfl

theorem addcgSum_eq (a b : Word) (c : Bool) : addcgSum a b c = (a.toNat + b.toNat + c.toNat : Nat) := by
  rw [addcgSum, boolInt_eq, Nat.cast_add, Nat.cast_add]; rfl

theorem addcgValue_eq (a b : Word) (c : Bool) :
    addcgValue a b c = BitVec.ofNat 32 (a.toNat + b.toNat + c.toNat) := by
  rw [addcgValue, addcgSum_eq, register_natCast]

theorem addcgCarry_eq (a b : Word) (c : Bool) :
    addcgCarry a b c = decide (2 ^ 32 ≤ a.toNat + b.toNat + c.toNat) := by
  rw [addcgCarry, addcgSum_eq, decide_eq_decide]; omega

theorem divsBit_eq (a : Word) : divsBit a = a.msb := BitVec.msb_eq_toInt.symm

theorem divsValue_eq (a b : Word) (c : Bool) :
    divsValue a b c = if a.msb then ((a <<< 1) ||| (BitVec.ofBool c).setWidth 32) + b
      else ((a <<< 1) ||| (BitVec.ofBool c).setWidth 32) - b := by
  have hshift : register (sext32 a * 2) = a <<< 1 := by rw [← register_sext32_mul_two_pow, pow_one]
  simp only [divsValue, hshift, boolWord_eq, sext32_neg_iff, register_add, register_sub, register_zext32,
    register_sext32]

end Sys2Proof.Machine
end

section
/-! The integer operations (40 R251 to R275): each obligation from the words, the value and the one effect of its
operations. -/

namespace Sys2Proof.Machine

/-- An operation of the Integer format with a register and an immediate form: where its opcode stands in the two tables,
the value both forms assign, and what that value is. Only add's register form has a kind that depends on its operands,
the nop's (30 R231). -/
theorem regImmForms_of_value {opc : BitVec 5} {reg : RegNum → RegNum → RegNum → Instr}
    {imm : RegNum → RegNum → BitVec 9 → Instr} {value f : Word → Word → Word} (hvalue : ∀ a b, value a b = f a b)
    (hregOp : int3ROp opc.toNat = some reg) (himmOp : int3IOp opc.toNat = some imm)
    (hregExec : ∀ d s1 s2 s, ∃ kind,
      exec (reg d s1 s2) s = issue { kind := kind, writes := [.gpr d (value (s.gpr s1) (s.gpr s2))] } s)
    (himmExec : ∀ d s1 i s, exec (imm d s1 i) s = issue (gprEffect d (value (s.gpr s1) (s.imm i))) s) :
    RegImmForms 0#1 opc reg imm f where
  regEncoding := decodeSyllable_regWord hregOp
  immEncoding := decodeSyllable_immWord himmOp
  regResult s d s1 s2 halone := by
    obtain ⟨kind, hexec⟩ := hregExec d s1 s2 s
    exact hvalue _ _ ▸ completes_writesGpr hexec halone
  immResult s d s1 i halone := hvalue _ _ ▸ completes_writesGpr (himmExec d s1 i s) halone

/-- As `regImmForms_of_value`, for a Monadic operation. -/
theorem monadicForm_of_value {sub : BitVec 9} {op : RegNum → RegNum → Instr} {value f : Word → Word}
    (hvalue : ∀ a, value a = f a) (hop : monadicOp sub.toNat = some op)
    (hexec : ∀ d s1 s, exec (op d s1) s = issue (gprEffect d (value (s.gpr s1))) s) : MonadicForm sub op f where
  encoding := decodeSyllable_monadic hop
  result s d s1 halone := hvalue _ ▸ completes_writesGpr (hexec d s1 s) halone

/-- Settles O12, from the value of each operation as a word. -/
theorem addAndSubtractResults : Obligations.AddAndSubtractResults := by
  refine ⟨?add, ?sub, ?sh1add, ?sh2add, ?sh3add, ?sh4add⟩
  case add => exact regImmForms_of_value addValue_eq rfl rfl (fun _ _ _ _ => ⟨_, rfl⟩) fun _ _ _ _ => rfl
  case sub => exact regImmForms_of_value subValue_eq rfl rfl (fun _ _ _ _ => ⟨_, rfl⟩) fun _ _ _ _ => rfl
  case sh1add => exact regImmForms_of_value sh1addValue_eq rfl rfl (fun _ _ _ _ => ⟨_, rfl⟩) fun _ _ _ _ => rfl
  case sh2add => exact regImmForms_of_value sh2addValue_eq rfl rfl (fun _ _ _ _ => ⟨_, rfl⟩) fun _ _ _ _ => rfl
  case sh3add => exact regImmForms_of_value sh3addValue_eq rfl rfl (fun _ _ _ _ => ⟨_, rfl⟩) fun _ _ _ _ => rfl
  case sh4add => exact regImmForms_of_value sh4addValue_eq rfl rfl (fun _ _ _ _ => ⟨_, rfl⟩) fun _ _ _ _ => rfl

/-- Settles O13: the amount is that of `zext8_eq`. -/
theorem shiftResults : Obligations.ShiftResults := by
  refine ⟨?shl, ?shr, ?shru⟩
  case shl => exact regImmForms_of_value shlValue_eq rfl rfl (fun _ _ _ _ => ⟨_, rfl⟩) fun _ _ _ _ => rfl
  case shr => exact regImmForms_of_value shrValue_eq rfl rfl (fun _ _ _ _ => ⟨_, rfl⟩) fun _ _ _ _ => rfl
  case shru => exact regImmForms_of_value shruValue_eq rfl rfl (fun _ _ _ _ => ⟨_, rfl⟩) fun _ _ _ _ => rfl

/-- Settles O14: the bitwise operations are the library's; maximum and minimum compare as its `slt` and `ult`. -/
theorem bitwiseAndMinMaxResults : Obligations.BitwiseAndMinMaxResults := by
  refine ⟨?and, ?andc, ?or, ?orc, ?xor, ?max, ?maxu, ?min, ?minu⟩
  case and => exact regImmForms_of_value andValue_eq rfl rfl (fun _ _ _ _ => ⟨_, rfl⟩) fun _ _ _ _ => rfl
  case andc => exact regImmForms_of_value andcValue_eq rfl rfl (fun _ _ _ _ => ⟨_, rfl⟩) fun _ _ _ _ => rfl
  case or => exact regImmForms_of_value orValue_eq rfl rfl (fun _ _ _ _ => ⟨_, rfl⟩) fun _ _ _ _ => rfl
  case orc => exact regImmForms_of_value orcValue_eq rfl rfl (fun _ _ _ _ => ⟨_, rfl⟩) fun _ _ _ _ => rfl
  case xor => exact regImmForms_of_value xorValue_eq rfl rfl (fun _ _ _ _ => ⟨_, rfl⟩) fun _ _ _ _ => rfl
  case max => exact regImmForms_of_value maxValue_eq rfl rfl (fun _ _ _ _ => ⟨_, rfl⟩) fun _ _ _ _ => rfl
  case maxu => exact regImmForms_of_value maxuValue_eq rfl rfl (fun _ _ _ _ => ⟨_, rfl⟩) fun _ _ _ _ => rfl
  case min => exact regImmForms_of_value minValue_eq rfl rfl (fun _ _ _ _ => ⟨_, rfl⟩) fun _ _ _ _ => rfl
  case minu => exact regImmForms_of_value minuValue_eq rfl rfl (fun _ _ _ _ => ⟨_, rfl⟩) fun _ _ _ _ => rfl

/-- Settles O15: sign extension is `Register` of the signed value by definition, clz is the library's by
`leadingZerosBelow_succ`. -/
theorem monadicResults : Obligations.MonadicResults := by
  refine ⟨?sxtb, ?sxth, ?bswap, ?zxth, ?clz⟩
  case sxtb => exact monadicForm_of_value sxtbValue_eq rfl fun _ _ _ => rfl
  case sxth => exact monadicForm_of_value sxthValue_eq rfl fun _ _ _ => rfl
  case bswap => exact monadicForm_of_value bswapValue_eq rfl fun _ _ _ => rfl
  case zxth => exact monadicForm_of_value zxthValue_eq rfl fun _ _ _ => rfl
  case clz => exact monadicForm_of_value clzValue_eq rfl fun _ _ _ => rfl

/-- Settles O16: the two values and the two bits, on words. -/
theorem carryAndDivideStepResults : Obligations.CarryAndDivideStepResults := by
  refine ⟨fun stop c b d s2 s1 => ⟨decodeSyllable_addcg stop c b d s2 s1, decodeSyllable_divs stop c b d s2 s1⟩,
    fun s d b c s1 s2 halone => ?addcg, fun s d b c s1 s2 halone => ?divs⟩
  case addcg =>
    have hcompletes : Completes (.addcg d b c s1 s2) s
        (WritesGprBranch d (addcgValue (s.gpr s1) (s.gpr s2) (s.br c)) b (addcgCarry (s.gpr s1) (s.gpr s2) (s.br c)) s) :=
      completes_writesGprBranch rfl halone
    rwa [addcgValue_eq, addcgCarry_eq] at hcompletes
  case divs =>
    have hcompletes : Completes (.divs d b c s1 s2) s
        (WritesGprBranch d (divsValue (s.gpr s1) (s.gpr s2) (s.br c)) b (divsBit (s.gpr s1)) s) :=
      completes_writesGprBranch rfl halone
    rwa [divsValue_eq, divsBit_eq] at hcompletes

end Sys2Proof.Machine
end

section
/-! The words of the compare and select formats: their fields, and what they decode to (30 R212, R213). The
widths of appended parts stay sums (`-Nat.reduceAdd`), as for the words above, and the parts of an opcode that spans two
of them are regrouped first. -/

namespace Sys2Proof.Machine

/-- A field that holds an append holds its two parts. -/
theorem extractLsb'_parts {w : Word} {lo m n : Nat} {x : BitVec m} {y : BitVec n}
    (h : w.extractLsb' lo (m + n) = x ++ y) : w.extractLsb' (lo + n) m = x ∧ w.extractLsb' lo n = y := by
  rw [← BitVec.extractLsb'_append_extractLsb'_eq_extractLsb' rfl] at h
  have hhigh := congrArg (BitVec.extractLsb' n m) h
  have hlow := congrArg (BitVec.extractLsb' 0 n) h
  rw [BitVec.extractLsb'_append_eq_left, BitVec.extractLsb'_append_eq_left] at hhigh
  rw [BitVec.extractLsb'_append_eq_right, BitVec.extractLsb'_append_eq_right] at hlow
  exact ⟨hhigh, hlow⟩

/-! ### Compare words -/

/-- Bit 25 chooses the destination's kind and bits 24:21 the operation (30 R212). -/
theorem compareOpcode_parts {w : Word} {b25 : BitVec 1} {opc : BitVec 4} (h : w.extractLsb' 21 5 = b25 ++ opc) :
    w.getLsbD 25 = b25.getLsbD 0 ∧ w.extractLsb' 21 4 = opc := by
  obtain ⟨hhigh, hlow⟩ := extractLsb'_parts (m := 1) (n := 4) h
  exact ⟨by simp [← hhigh], hlow⟩

/-- The opcodes of the compare and logical operations are none of the Mul64 format's, 1110 and 1111 (30 R212). -/
theorem mul64Op_compare (b25 : BitVec 1) {opc : BitVec 4} (h : opc.toNat < 14) :
    mul64ROp (b25 ++ opc).toNat = none ∧ mul64IOp (b25 ++ opc).toNat = none := by
  have hnone : ∀ (b25 : BitVec 1) (opc : BitVec 4), opc.toNat < 14 →
      (mul64ROp (b25 ++ opc).toNat).isNone = true ∧ (mul64IOp (b25 ++ opc).toNat).isNone = true := by decide
  simpa using hnone b25 opc h

/-- Cmp3R_Br, for a branch register and register operands (30 R206). -/
def compareBranchWord (stop : BitVec 1) (opc : BitVec 4) (b : BrNum) (s2 s1 : RegNum) : Word :=
  stop ++ 0#1 ++ 0b00#2 ++ 0b011#3 ++ opc ++ b ++ 0#6 ++ s2 ++ s1

theorem compareBranchWord_fields (stop : BitVec 1) (opc : BitVec 4) (b : BrNum) (s2 s1 : RegNum) :
    fieldBdest (compareBranchWord stop opc b s2 s1) = b ∧ fieldSrc2 (compareBranchWord stop opc b s2 s1) = s2
      ∧ fieldSrc1 (compareBranchWord stop opc b s2 s1) = s1
      ∧ (compareBranchWord stop opc b s2 s1).extractLsb' 21 5 = 1#1 ++ opc
      ∧ (compareBranchWord stop opc b s2 s1).extractLsb' 12 6 = 0#6 := by
  rw [compareBranchWord, show 0b011#3 = 0b01#2 ++ 1#1 from rfl, BitVec.append_assoc' (x₂ := 0b01#2), BitVec.cast_eq,
    BitVec.append_assoc (x₃ := opc)]
  simp [-Nat.reduceAdd, fieldBdest, fieldSrc2, fieldSrc1, BitVec.extractLsb'_append_eq_of_le,
    BitVec.extractLsb'_append_eq_of_add_le]

/-- Bits 30:26 of the word select the tables of the compare operations (30 R210, R212). -/
theorem compareBranchWord_format (stop : BitVec 1) (opc : BitVec 4) (b : BrNum) (s2 s1 : RegNum) :
    (compareBranchWord stop opc b s2 s1).getLsbD 30 = false
      ∧ (compareBranchWord stop opc b s2 s1).extractLsb' 28 2 = 0#2
      ∧ (compareBranchWord stop opc b s2 s1).getLsbD 27 = false
      ∧ (compareBranchWord stop opc b s2 s1).getLsbD 26 = true := by
  refine ⟨?_, ?_, ?_, ?_⟩
  · simp only [compareBranchWord, BitVec.getLsbD_append]; rfl
  · simp [-Nat.reduceAdd, compareBranchWord, BitVec.extractLsb'_append_eq_of_le,
      BitVec.extractLsb'_append_eq_of_add_le]
  · simp only [compareBranchWord, BitVec.getLsbD_append]; rfl
  · simp only [compareBranchWord, BitVec.getLsbD_append]; rfl

/-- Cmp3R_Reg (30 R212). -/
theorem decodeSyllable_compareRR {opc : BitVec 4} {op : RegNum → RegNum → RegNum → Instr} (hopc : opc.toNat < 14)
    (hop : cmpRROp opc.toNat = some op) (stop : BitVec 1) (d s2 s1 : RegNum) :
    decodeSyllable (regWord stop 1#1 (0#1 ++ opc) d s2 s1) = .ok (op d s1 s2) := by
  obtain ⟨hdest, hsrc2, hsrc1, hfield, hunused⟩ := regWord_fields stop 1#1 (0#1 ++ opc) d s2 s1
  obtain ⟨h30, h28, h27, h26⟩ := regWord_format stop 1#1 (0#1 ++ opc) d s2 s1
  obtain ⟨h25, hlow⟩ := compareOpcode_parts hfield
  obtain ⟨hmul, -⟩ := mul64Op_compare 0#1 hopc
  simp [-BitVec.getLsbD_eq_getElem, -BitVec.toNat_append, decodeSyllable, decodeInteger, decodeCmpR, whenZero, *]

/-- Cmp3R_Br (30 R212). -/
theorem decodeSyllable_compareBR {opc : BitVec 4} {op : BrNum → RegNum → RegNum → Instr} (hopc : opc.toNat < 14)
    (hop : cmpBROp opc.toNat = some op) (stop : BitVec 1) (b : BrNum) (s2 s1 : RegNum) :
    decodeSyllable (compareBranchWord stop opc b s2 s1) = .ok (op b s1 s2) := by
  obtain ⟨hbdest, hsrc2, hsrc1, hfield, hunused⟩ := compareBranchWord_fields stop opc b s2 s1
  obtain ⟨h30, h28, h27, h26⟩ := compareBranchWord_format stop opc b s2 s1
  obtain ⟨h25, hlow⟩ := compareOpcode_parts hfield
  obtain ⟨hmul, -⟩ := mul64Op_compare 1#1 hopc
  simp [-BitVec.getLsbD_eq_getElem, -BitVec.toNat_append, decodeSyllable, decodeInteger, decodeCmpR, whenZero, *]

/-- Cmp3I_Reg (30 R212). -/
theorem decodeSyllable_compareRI {opc : BitVec 4} {op : RegNum → RegNum → BitVec 9 → Instr} (hopc : opc.toNat < 14)
    (hop : cmpRIOp opc.toNat = some op) (stop : BitVec 1) (i : BitVec 9) (d s1 : RegNum) :
    decodeSyllable (immWord stop 1#1 (0#1 ++ opc) i d s1) = .ok (op d s1 i) := by
  obtain ⟨hisrc2, hdest, hsrc1, hfield⟩ := immWord_fields stop 1#1 (0#1 ++ opc) i d s1
  obtain ⟨h30, h28, h27, h26⟩ := immWord_format stop 1#1 (0#1 ++ opc) i d s1
  obtain ⟨h25, hlow⟩ := compareOpcode_parts hfield
  obtain ⟨-, hmul⟩ := mul64Op_compare 0#1 hopc
  simp [-BitVec.getLsbD_eq_getElem, -BitVec.toNat_append, decodeSyllable, decodeInteger, decodeCmpI, *]

/-- Cmp3I_Br: the branch register stands in the low three bits of the destination field, the others are 0 (30 R212). -/
theorem decodeSyllable_compareBI {opc : BitVec 4} {op : BrNum → RegNum → BitVec 9 → Instr} (hopc : opc.toNat < 14)
    (hop : cmpBIOp opc.toNat = some op) (stop : BitVec 1) (i : BitVec 9) (b : BrNum) (s1 : RegNum) :
    decodeSyllable (immWord stop 1#1 (1#1 ++ opc) i (0#3 ++ b) s1) = .ok (op b s1 i) := by
  obtain ⟨hisrc2, hdest, hsrc1, hfield⟩ := immWord_fields stop 1#1 (1#1 ++ opc) i (0#3 ++ b) s1
  obtain ⟨h30, h28, h27, h26⟩ := immWord_format stop 1#1 (1#1 ++ opc) i (0#3 ++ b) s1
  obtain ⟨h25, hlow⟩ := compareOpcode_parts hfield
  obtain ⟨-, hmul⟩ := mul64Op_compare 1#1 hopc
  obtain ⟨hunused, hibdest⟩ := extractLsb'_parts (m := 3) (n := 3) hdest
  rw [← fieldIbdest] at hibdest
  simp [-BitVec.getLsbD_eq_getElem, -BitVec.toNat_append, decodeSyllable, decodeInteger, decodeCmpI, whenZero, *]

/-! ### Select words -/

/-- The register form of slct and slctf (30 R206). -/
def selectRegWord (stop : BitVec 1) (opc : BitVec 3) (c : BrNum) (d s2 s1 : RegNum) : Word :=
  stop ++ 0#1 ++ 0b01#2 ++ 0#1 ++ opc ++ c ++ 0#3 ++ d ++ s2 ++ s1

theorem selectRegWord_fields (stop : BitVec 1) (opc : BitVec 3) (c : BrNum) (d s2 s1 : RegNum) :
    fieldScond (selectRegWord stop opc c d s2 s1) = c ∧ fieldDest (selectRegWord stop opc c d s2 s1) = d
      ∧ fieldSrc2 (selectRegWord stop opc c d s2 s1) = s2 ∧ fieldSrc1 (selectRegWord stop opc c d s2 s1) = s1
      ∧ (selectRegWord stop opc c d s2 s1).extractLsb' 24 4 = 0#1 ++ opc
      ∧ (selectRegWord stop opc c d s2 s1).extractLsb' 18 3 = 0#3 := by
  rw [selectRegWord, BitVec.append_assoc (x₂ := 0#1) (x₃ := opc)]
  simp [-Nat.reduceAdd, fieldScond, fieldDest, fieldSrc2, fieldSrc1, BitVec.extractLsb'_append_eq_of_le,
    BitVec.extractLsb'_append_eq_of_add_le]

/-- Bits 30:28 of the word select the Specific format (30 R210). -/
theorem selectRegWord_format (stop : BitVec 1) (opc : BitVec 3) (c : BrNum) (d s2 s1 : RegNum) :
    (selectRegWord stop opc c d s2 s1).getLsbD 30 = false
      ∧ (selectRegWord stop opc c d s2 s1).extractLsb' 28 2 = 1#2 := by
  refine ⟨?_, ?_⟩
  · simp only [selectRegWord, BitVec.getLsbD_append]; rfl
  · simp [-Nat.reduceAdd, selectRegWord, BitVec.extractLsb'_append_eq_of_le, BitVec.extractLsb'_append_eq_of_add_le]

/-- The immediate form of slct and slctf (30 R206). -/
def selectImmWord (stop : BitVec 1) (opc : BitVec 3) (c : BrNum) (i : BitVec 9) (d s1 : RegNum) : Word :=
  stop ++ 0#1 ++ 0b01#2 ++ 1#1 ++ opc ++ c ++ i ++ d ++ s1

theorem selectImmWord_fields (stop : BitVec 1) (opc : BitVec 3) (c : BrNum) (i : BitVec 9) (d s1 : RegNum) :
    fieldScond (selectImmWord stop opc c i d s1) = c ∧ fieldIsrc2 (selectImmWord stop opc c i d s1) = i
      ∧ fieldIdest (selectImmWord stop opc c i d s1) = d ∧ fieldSrc1 (selectImmWord stop opc c i d s1) = s1
      ∧ (selectImmWord stop opc c i d s1).extractLsb' 24 4 = 1#1 ++ opc := by
  rw [selectImmWord, BitVec.append_assoc (x₂ := 1#1) (x₃ := opc)]
  simp [-Nat.reduceAdd, fieldScond, fieldIsrc2, fieldIdest, fieldSrc1, BitVec.extractLsb'_append_eq_of_le,
    BitVec.extractLsb'_append_eq_of_add_le]

/-- Bits 30:28 of the word select the Specific format (30 R210). -/
theorem selectImmWord_format (stop : BitVec 1) (opc : BitVec 3) (c : BrNum) (i : BitVec 9) (d s1 : RegNum) :
    (selectImmWord stop opc c i d s1).getLsbD 30 = false
      ∧ (selectImmWord stop opc c i d s1).extractLsb' 28 2 = 1#2 := by
  refine ⟨?_, ?_⟩
  · simp only [selectImmWord, BitVec.getLsbD_append]; rfl
  · simp [-Nat.reduceAdd, selectImmWord, BitVec.extractLsb'_append_eq_of_le, BitVec.extractLsb'_append_eq_of_add_le]

theorem decodeSyllable_slctR (stop : BitVec 1) (c : BrNum) (d s2 s1 : RegNum) :
    decodeSyllable (selectRegWord stop 0b000#3 c d s2 s1) = .ok (.slctR d c s1 s2) := by
  obtain ⟨hscond, hdest, hsrc2, hsrc1, hopc, hunused⟩ := selectRegWord_fields stop 0b000#3 c d s2 s1
  obtain ⟨h30, h28⟩ := selectRegWord_format stop 0b000#3 c d s2 s1
  simp [-BitVec.getLsbD_eq_getElem, decodeSyllable, decodeSpecific, whenZero, *]

theorem decodeSyllable_slctI (stop : BitVec 1) (c : BrNum) (i : BitVec 9) (d s1 : RegNum) :
    decodeSyllable (selectImmWord stop 0b000#3 c i d s1) = .ok (.slctI d c s1 i) := by
  obtain ⟨hscond, hisrc2, hdest, hsrc1, hopc⟩ := selectImmWord_fields stop 0b000#3 c i d s1
  obtain ⟨h30, h28⟩ := selectImmWord_format stop 0b000#3 c i d s1
  simp [-BitVec.getLsbD_eq_getElem, decodeSyllable, decodeSpecific, *]

theorem decodeSyllable_slctfR (stop : BitVec 1) (c : BrNum) (d s2 s1 : RegNum) :
    decodeSyllable (selectRegWord stop 0b001#3 c d s2 s1) = .ok (.slctfR d c s1 s2) := by
  obtain ⟨hscond, hdest, hsrc2, hsrc1, hopc, hunused⟩ := selectRegWord_fields stop 0b001#3 c d s2 s1
  obtain ⟨h30, h28⟩ := selectRegWord_format stop 0b001#3 c d s2 s1
  simp [-BitVec.getLsbD_eq_getElem, decodeSyllable, decodeSpecific, whenZero, *]

theorem decodeSyllable_slctfI (stop : BitVec 1) (c : BrNum) (i : BitVec 9) (d s1 : RegNum) :
    decodeSyllable (selectImmWord stop 0b001#3 c i d s1) = .ok (.slctfI d c s1 i) := by
  obtain ⟨hscond, hisrc2, hdest, hsrc1, hopc⟩ := selectImmWord_fields stop 0b001#3 c i d s1
  obtain ⟨h30, h28⟩ := selectImmWord_format stop 0b001#3 c i d s1
  simp [-BitVec.getLsbD_eq_getElem, decodeSyllable, decodeSpecific, *]

end Sys2Proof.Machine
end

section
/-! The conditions of the compare, logical and select operations (41 R301 to R321), as operations on words. -/

namespace Sys2Proof.Machine

/-! ### Comparisons -/

theorem sext32_inj (a b : Word) : sext32 a = sext32 b ↔ a = b := BitVec.toInt_inj

theorem sext32_le_iff (a b : Word) : sext32 a ≤ sext32 b ↔ a.sle b = true := BitVec.sle_iff_toInt_le.symm

theorem zext32_le_iff (a b : Word) : zext32 a ≤ zext32 b ↔ a.ule b = true :=
  Int.ofNat_le.trans BitVec.ule_iff_toNat_le.symm

theorem condEq_eq (a b : Word) : condEq a b = (a == b) := by
  rw [condEq, decide_eq_decide.mpr (sext32_inj a b), beq_eq_decide]

theorem condNe_eq (a b : Word) : condNe a b = (a != b) := by
  rw [condNe, decide_not, ← condEq, condEq_eq, bne]

theorem condGe_eq (a b : Word) : condGe a b = b.sle a := by
  simp only [condGe, ge_iff_le, sext32_le_iff, Bool.decide_eq_true]

theorem condGt_eq (a b : Word) : condGt a b = b.slt a := by
  simp only [condGt, gt_iff_lt, sext32_lt_iff, Bool.decide_eq_true]

theorem condLe_eq (a b : Word) : condLe a b = a.sle b := condGe_eq b a

theorem condLt_eq (a b : Word) : condLt a b = a.slt b := condGt_eq b a

theorem condGeu_eq (a b : Word) : condGeu a b = b.ule a := by
  simp only [condGeu, ge_iff_le, zext32_le_iff, Bool.decide_eq_true]

theorem condGtu_eq (a b : Word) : condGtu a b = b.ult a := by
  simp only [condGtu, gt_iff_lt, zext32_lt_iff, Bool.decide_eq_true]

theorem condLeu_eq (a b : Word) : condLeu a b = a.ule b := condGeu_eq b a

theorem condLtu_eq (a b : Word) : condLtu a b = a.ult b := condGtu_eq b a

/-! ### Truth values -/

/-- An operand is true when it is not zero (41 R311). -/
theorem decide_sext32_ne_zero (a : Word) : decide (sext32 a ≠ 0) = (a != 0#32) := condNe_eq a 0#32

theorem condAndl_eq (a b : Word) : condAndl a b = (a != 0#32 && b != 0#32) := by
  rw [condAndl, decide_sext32_ne_zero, decide_sext32_ne_zero]

theorem condOrl_eq (a b : Word) : condOrl a b = (a != 0#32 || b != 0#32) := by
  rw [condOrl, decide_sext32_ne_zero, decide_sext32_ne_zero]

theorem condNandl_eq (a b : Word) : condNandl a b = !(a != 0#32 && b != 0#32) := congrArg not (condAndl_eq a b)

theorem condNorl_eq (a b : Word) : condNorl a b = !(a != 0#32 || b != 0#32) := congrArg not (condOrl_eq a b)

/-! ### Selection -/

theorem selectValue_eq (c : Bool) (a b : Word) : selectValue c a b = bif c then a else b := by cases c <;> rfl

/-- slctf selects as slct does with its two sources exchanged (41 R321). -/
theorem selectValue_not (c : Bool) (a b : Word) : selectValue (!c) a b = bif c then b else a := by cases c <;> rfl

end Sys2Proof.Machine
end

section
/-! The compare, logical and select operations (41 R300 to R321): each obligation from the words, the condition and the
one effect of its operations. -/

namespace Sys2Proof.Machine

/-! ### Writing a branch register -/

theorem OnlyAdvances.setBr {s t : State} (h : OnlyAdvances s t) (b : BrNum) (c : Bool) :
    WritesBranch b c s (t.setBr b c) where
  result := t.br_setBr_same b c
  others q hq := (t.br_setBr_other c hq).trans (h.branches q)
  gprs r := (State.gpr_congr (t.setBr_regs b c) r).trans (h.gprs r)
  pc := h.pc
  memory := h.memory
  system := h.system.setBr b c

/-- An operation whose one assignment is to a branch register writes it and nothing else. -/
theorem completes_writesBranch {i : Instr} {s : State} {b : BrNum} {c : Bool}
    (hexec : exec i s = issue (brEffect b c) s) (halone : s.alone) : Completes i s (WritesBranch b c s) :=
  completes_of_issue hexec halone rfl rfl ((s.advance_onlyAdvances _).setBr b c)

/-! ### The four forms -/

/-- A compare or logical operation in its four forms: where its opcode stands in the four tables, the condition all four
evaluate, and what that condition is. -/
theorem compareForms_of_cond {opc : BitVec 4} {rr : RegNum → RegNum → RegNum → Instr}
    {br : BrNum → RegNum → RegNum → Instr} {ri : RegNum → RegNum → BitVec 9 → Instr}
    {bi : BrNum → RegNum → BitVec 9 → Instr} {cond c : Word → Word → Bool} (hcond : ∀ a b, cond a b = c a b)
    (hopc : opc.toNat < 14)
    (htables : cmpRROp opc.toNat = some rr ∧ cmpBROp opc.toNat = some br ∧ cmpRIOp opc.toNat = some ri
      ∧ cmpBIOp opc.toNat = some bi)
    (hexec : ∀ (s : State) d b s1 s2 i,
      exec (rr d s1 s2) s = issue (gprEffect d (boolWord (cond (s.gpr s1) (s.gpr s2)))) s
      ∧ exec (br b s1 s2) s = issue (brEffect b (cond (s.gpr s1) (s.gpr s2))) s
      ∧ exec (ri d s1 i) s = issue (gprEffect d (boolWord (cond (s.gpr s1) (s.imm i)))) s
      ∧ exec (bi b s1 i) s = issue (brEffect b (cond (s.gpr s1) (s.imm i))) s) :
    CompareForms opc rr br ri bi c := by
  obtain ⟨hrr, hbr, hri, hbi⟩ := htables
  obtain rfl : cond = c := funext₂ hcond
  exact {
    rrEncoding := decodeSyllable_compareRR hopc hrr
    brEncoding := decodeSyllable_compareBR hopc hbr
    riEncoding := decodeSyllable_compareRI hopc hri
    biEncoding := decodeSyllable_compareBI hopc hbi
    rrResult := fun s d s1 s2 halone => by
      obtain ⟨hexec, -, -, -⟩ := hexec s d 0#3 s1 s2 0#9
      exact completes_writesGpr hexec halone
    brResult := fun s b s1 s2 halone => by
      obtain ⟨-, hexec, -, -⟩ := hexec s 0#6 b s1 s2 0#9
      exact completes_writesBranch hexec halone
    riResult := fun s d s1 i halone => by
      obtain ⟨-, -, hexec, -⟩ := hexec s d 0#3 s1 0#6 i
      exact completes_writesGpr hexec halone
    biResult := fun s b s1 i halone => by
      obtain ⟨-, -, -, hexec⟩ := hexec s 0#6 b s1 0#6 i
      exact completes_writesBranch hexec halone }

/-- Settles O17: signed comparisons are the library's `sle` and `slt`, unsigned ones its `ule` and `ult`. -/
theorem compareResults : Obligations.CompareResults := by
  refine ⟨?eq, ?ne, ?ge, ?gt, ?le, ?lt, ?geu, ?gtu, ?leu, ?ltu⟩
  case eq =>
    exact compareForms_of_cond condEq_eq (by decide) ⟨rfl, rfl, rfl, rfl⟩ fun _ _ _ _ _ _ => ⟨rfl, rfl, rfl, rfl⟩
  case ne =>
    exact compareForms_of_cond condNe_eq (by decide) ⟨rfl, rfl, rfl, rfl⟩ fun _ _ _ _ _ _ => ⟨rfl, rfl, rfl, rfl⟩
  case ge =>
    exact compareForms_of_cond condGe_eq (by decide) ⟨rfl, rfl, rfl, rfl⟩ fun _ _ _ _ _ _ => ⟨rfl, rfl, rfl, rfl⟩
  case gt =>
    exact compareForms_of_cond condGt_eq (by decide) ⟨rfl, rfl, rfl, rfl⟩ fun _ _ _ _ _ _ => ⟨rfl, rfl, rfl, rfl⟩
  case le =>
    exact compareForms_of_cond condLe_eq (by decide) ⟨rfl, rfl, rfl, rfl⟩ fun _ _ _ _ _ _ => ⟨rfl, rfl, rfl, rfl⟩
  case lt =>
    exact compareForms_of_cond condLt_eq (by decide) ⟨rfl, rfl, rfl, rfl⟩ fun _ _ _ _ _ _ => ⟨rfl, rfl, rfl, rfl⟩
  case geu =>
    exact compareForms_of_cond condGeu_eq (by decide) ⟨rfl, rfl, rfl, rfl⟩ fun _ _ _ _ _ _ => ⟨rfl, rfl, rfl, rfl⟩
  case gtu =>
    exact compareForms_of_cond condGtu_eq (by decide) ⟨rfl, rfl, rfl, rfl⟩ fun _ _ _ _ _ _ => ⟨rfl, rfl, rfl, rfl⟩
  case leu =>
    exact compareForms_of_cond condLeu_eq (by decide) ⟨rfl, rfl, rfl, rfl⟩ fun _ _ _ _ _ _ => ⟨rfl, rfl, rfl, rfl⟩
  case ltu =>
    exact compareForms_of_cond condLtu_eq (by decide) ⟨rfl, rfl, rfl, rfl⟩ fun _ _ _ _ _ _ => ⟨rfl, rfl, rfl, rfl⟩

/-- Settles O18, by the truth value of an operand, `decide_sext32_ne_zero`. -/
theorem logicalResults : Obligations.LogicalResults := by
  refine ⟨?andl, ?nandl, ?orl, ?norl⟩
  case andl =>
    exact compareForms_of_cond condAndl_eq (by decide) ⟨rfl, rfl, rfl, rfl⟩ fun _ _ _ _ _ _ => ⟨rfl, rfl, rfl, rfl⟩
  case nandl =>
    exact compareForms_of_cond condNandl_eq (by decide) ⟨rfl, rfl, rfl, rfl⟩ fun _ _ _ _ _ _ => ⟨rfl, rfl, rfl, rfl⟩
  case orl =>
    exact compareForms_of_cond condOrl_eq (by decide) ⟨rfl, rfl, rfl, rfl⟩ fun _ _ _ _ _ _ => ⟨rfl, rfl, rfl, rfl⟩
  case norl =>
    exact compareForms_of_cond condNorl_eq (by decide) ⟨rfl, rfl, rfl, rfl⟩ fun _ _ _ _ _ _ => ⟨rfl, rfl, rfl, rfl⟩

/-- Settles O19: slctf is slct with the condition negated. -/
theorem selectResults : Obligations.SelectResults := by
  refine ⟨fun stop c d s2 s1 i => ⟨decodeSyllable_slctR stop c d s2 s1, decodeSyllable_slctI stop c i d s1,
    decodeSyllable_slctfR stop c d s2 s1, decodeSyllable_slctfI stop c i d s1⟩,
    fun s d c s1 s2 i halone => ⟨?slctR, ?slctI, ?slctfR, ?slctfI⟩⟩
  case slctR => exact selectValue_eq _ _ _ ▸ completes_writesGpr rfl halone
  case slctI => exact selectValue_eq _ _ _ ▸ completes_writesGpr rfl halone
  case slctfR => exact selectValue_not _ _ _ ▸ completes_writesGpr rfl halone
  case slctfI => exact selectValue_not _ _ _ ▸ completes_writesGpr rfl halone

end Sys2Proof.Machine
end

section
/-! The words of the Mul64 format, which is the Integer format with bit 26 = 1 and OPC 1110 or 1111 (30 R206, R212). -/

namespace Sys2Proof.Machine

/-- Mul64R (30 R212). -/
theorem decodeSyllable_mul64R {opc : BitVec 5} {op : RegNum → RegNum → RegNum → Instr}
    (hop : mul64ROp opc.toNat = some op) (stop : BitVec 1) (d s2 s1 : RegNum) :
    decodeSyllable (regWord stop 1#1 opc d s2 s1) = .ok (op d s1 s2) := by
  obtain ⟨hdest, hsrc2, hsrc1, hopc, hunused⟩ := regWord_fields stop 1#1 opc d s2 s1
  obtain ⟨h30, h28, h27, h26⟩ := regWord_format stop 1#1 opc d s2 s1
  simp [-BitVec.getLsbD_eq_getElem, decodeSyllable, decodeInteger, decodeCmpR, whenZero, *]

/-- Mul64I (30 R212). -/
theorem decodeSyllable_mul64I {opc : BitVec 5} {op : RegNum → RegNum → BitVec 9 → Instr}
    (hop : mul64IOp opc.toNat = some op) (stop : BitVec 1) (i : BitVec 9) (d s1 : RegNum) :
    decodeSyllable (immWord stop 1#1 opc i d s1) = .ok (op d s1 i) := by
  obtain ⟨hisrc2, hdest, hsrc1, hopc⟩ := immWord_fields stop 1#1 opc i d s1
  obtain ⟨h30, h28, h27, h26⟩ := immWord_format stop 1#1 opc i d s1
  simp [-BitVec.getLsbD_eq_getElem, decodeSyllable, decodeInteger, decodeCmpI, *]

end Sys2Proof.Machine
end

section
/-! The values the multiplies write (42 R371 to R387), as operations on words. A product of integers is kept to its low
32 bits, which is a product of words (`register_mul`), or shifted right first, which takes 32 bits from the product of
double words (`register_shiftRight`). -/

namespace Sys2Proof.Machine

/-! ### Bits of an integer -/

/-- The model's literal shift amounts are integers; the library states its lemmas for natural numbers. -/
theorem shiftRight_ofNat (x : Int) (n : Nat) [n.AtLeastTwo] :
    x >>> (OfNat.ofNat n : Int) = x >>> (OfNat.ofNat n : Nat) := Int.shiftRight_natCast_right x n

/-- A field of a complement is the complement of the field, up to the word's last bit. -/
theorem extractLsb'_not {w m n : Nat} (h : n + m ≤ w) (x : BitVec w) :
    (~~~x).extractLsb' n m = ~~~x.extractLsb' n m := by
  ext i hi
  have hbit : n + i < w := by omega
  simp [hbit]

/-- Shifting an integer right and then keeping its low bits takes them from higher up; a negative integer is the
complement of a natural number. -/
theorem ofInt_shiftRight {w m n : Nat} (h : n + m ≤ w) (x : Int) :
    BitVec.ofInt m (x >>> n) = (BitVec.ofInt w x).extractLsb' n m := by
  have hnat (k : Nat) : BitVec.ofNat m (k >>> n) = (BitVec.ofNat w k).extractLsb' n m := by
    ext i hi
    have hbit : n + i < w := by omega
    simp [← BitVec.getLsbD_eq_getElem, BitVec.getLsbD_ofNat, hi, hbit]
  cases x with
  | ofNat k => exact hnat k
  | negSucc k =>
    rw [Int.negSucc_shiftRight, BitVec.ofInt_negSucc_eq_not_ofNat, BitVec.ofInt_negSucc_eq_not_ofNat, hnat,
      extractLsb'_not h]

/-- The bits of a product above its low ones stand in a double word. -/
theorem register_shiftRight {n : Nat} (h : n ≤ 32) (x : Int) :
    register (x >>> n) = (BitVec.ofInt 64 x).extractLsb' n 32 :=
  ofInt_shiftRight (Nat.add_le_add_right h 32) x

/-! ### Halves of an operand -/

theorem register_sext16 (a : Word) : register (sext16 a) = (a.setWidth 16).signExtend 32 := rfl

theorem register_zext16 (a : Word) : register (zext16 a) = (a.setWidth 16).setWidth 32 := by
  rw [zext16, register_natCast, BitVec.ofNat_toNat]

theorem upperSigned_eq (a : Word) : upperSigned a = (a.sshiftRight 16).toInt := by
  rw [upperSigned, shiftRight_ofNat, BitVec.toInt_sshiftRight, sext32]

/-- The sign extension before the shift does not reach the 16 bits that are kept. -/
theorem upperUnsigned_eq (a : Word) : upperUnsigned a = (a >>> 16).toNat := by
  have hlt : a.toNat >>> 16 < 2 ^ 16 := by rw [Nat.shiftRight_eq_div_pow]; omega
  rw [upperUnsigned, zextInt, shiftRight_ofNat, ofInt_shiftRight (w := 32) (by decide), sext32, BitVec.ofInt_toInt,
    BitVec.extractLsb'_toNat, Nat.mod_eq_of_lt hlt, BitVec.toNat_ushiftRight]

theorem register_upperSigned (a : Word) : register (upperSigned a) = a.sshiftRight 16 := by
  rw [upperSigned_eq, register, BitVec.ofInt_toInt]

theorem register_upperUnsigned (a : Word) : register (upperUnsigned a) = a >>> 16 := by
  rw [upperUnsigned_eq, register_natCast, BitVec.ofNat_toNat, BitVec.setWidth_eq]

/-! ### Half-word multiplies -/

theorem mullValue_eq (a b : Word) : mullValue a b = a * (b.setWidth 16).signExtend 32 := by
  rw [mullValue, register_mul, register_sext32, register_sext16]

theorem mulluValue_eq (a b : Word) : mulluValue a b = a * (b.setWidth 16).setWidth 32 := by
  rw [mulluValue, register_mul, register_zext32, register_zext16]

theorem mulhValue_eq (a b : Word) : mulhValue a b = a * b.sshiftRight 16 := by
  rw [mulhValue, register_mul, register_sext32, register_upperSigned]

theorem mulhuValue_eq (a b : Word) : mulhuValue a b = a * (b >>> 16) := by
  rw [mulhuValue, register_mul, register_zext32, register_upperUnsigned]

theorem mulllValue_eq (a b : Word) :
    mulllValue a b = (a.setWidth 16).signExtend 32 * (b.setWidth 16).signExtend 32 := by
  rw [mulllValue, register_mul, register_sext16, register_sext16]

theorem mullluValue_eq (a b : Word) : mullluValue a b = (a.setWidth 16).setWidth 32 * (b.setWidth 16).setWidth 32 := by
  rw [mullluValue, register_mul, register_zext16, register_zext16]

theorem mullhValue_eq (a b : Word) : mullhValue a b = (a.setWidth 16).signExtend 32 * b.sshiftRight 16 := by
  rw [mullhValue, register_mul, register_sext16, register_upperSigned]

theorem mullhuValue_eq (a b : Word) : mullhuValue a b = (a.setWidth 16).setWidth 32 * (b >>> 16) := by
  rw [mullhuValue, register_mul, register_zext16, register_upperUnsigned]

theorem mulhhValue_eq (a b : Word) : mulhhValue a b = a.sshiftRight 16 * b.sshiftRight 16 := by
  rw [mulhhValue, register_mul, register_upperSigned, register_upperSigned]

theorem mulhhuValue_eq (a b : Word) : mulhhuValue a b = (a >>> 16) * (b >>> 16) := by
  rw [mulhhuValue, register_mul, register_upperUnsigned, register_upperUnsigned]

/-! ### Shifted and 32 by 32 multiplies -/

/-- The exact product of two signed words is that of the words sign-extended to double words. -/
theorem ofInt_toInt_mul_toInt (a b : Word) :
    BitVec.ofInt 64 (a.toInt * b.toInt) = a.signExtend 64 * b.signExtend 64 := BitVec.ofInt_mul ..

theorem mulhsValue_eq (a b : Word) : mulhsValue a b = (a * (b >>> 16)) <<< 16 := by
  have hpow : register (2 ^ 16) = BitVec.twoPow 32 16 := rfl
  rw [mulhsValue, register_mul, register_mul, register_sext32, register_upperUnsigned, hpow,
    BitVec.mul_twoPow_eq_shiftLeft]

theorem mulhhsValue_eq (a b : Word) :
    mulhhsValue a b = (a.signExtend 64 * (b.sshiftRight 16).signExtend 64).extractLsb' 16 32 := by
  rw [mulhhsValue, shiftRight_ofNat, register_shiftRight (by decide), upperSigned_eq, sext32, ofInt_toInt_mul_toInt]

theorem mullhusValue_eq (a b : Word) :
    mullhusValue a b = (a.signExtend 64 * (b.setWidth 16).setWidth 64).extractLsb' 32 32 := by
  rw [mullhusValue, shiftRight_ofNat, register_shiftRight (by decide), BitVec.ofInt_mul, zext16, BitVec.ofInt_natCast,
    BitVec.ofNat_toNat, sext32, BitVec.signExtend]

theorem mul32Value_eq (a b : Word) : mul32Value a b = a * b := by
  rw [mul32Value, register_mul, register_sext32, register_sext32]

theorem mul64hValue_eq (a b : Word) :
    mul64hValue a b = (a.signExtend 64 * b.signExtend 64).extractLsb' 32 32 := by
  rw [mul64hValue, shiftRight_ofNat, register_shiftRight (by decide), sext32, sext32, ofInt_toInt_mul_toInt]

theorem mul64huValue_eq (a b : Word) :
    mul64huValue a b = (a.setWidth 64 * b.setWidth 64).extractLsb' 32 32 := by
  rw [mul64huValue, shiftRight_ofNat, register_shiftRight (by decide), BitVec.ofInt_mul, zext32, zext32,
    BitVec.ofInt_natCast, BitVec.ofInt_natCast, BitVec.ofNat_toNat, BitVec.ofNat_toNat]

/-- The operand -1.0 of the saturating case is the least word (42 R387). -/
theorem neg_sext32_eq_iff (a : Word) : -sext32 a = 0x80000000 ↔ a = 0x80000000#32 := by
  have hleast : sext32 0x80000000#32 = -0x80000000 := by decide
  rw [← sext32_inj, hleast]
  omega

/-- The rounding term 2^30 is added before bits 62:31 are taken (42 R387). -/
theorem mulfracValue_eq (a b : Word) :
    mulfracValue a b = if a = 0x80000000#32 ∧ b = 0x80000000#32 then 0x7FFFFFFF#32
      else (a.signExtend 64 * b.signExtend 64 + 0x40000000#64).extractLsb' 31 32 := by
  have hround : BitVec.ofInt 64 (2 ^ 30) = 0x40000000#64 := rfl
  simp only [mulfracValue, neg_sext32_eq_iff]
  rw [shiftRight_ofNat, register_shiftRight (by decide), BitVec.ofInt_add, sext32, sext32, ofInt_toInt_mul_toInt,
    hround]

end Sys2Proof.Machine
end

section
/-! The multiplies (42 R370 to R387): each obligation from the words, the value and the one effect of its operations. -/

namespace Sys2Proof.Machine

/-- As `regImmForms_of_value`, for an operation of the Mul64 format. -/
theorem mul64Forms_of_value {opc : BitVec 5} {reg : RegNum → RegNum → RegNum → Instr}
    {imm : RegNum → RegNum → BitVec 9 → Instr} {value f : Word → Word → Word} (hvalue : ∀ a b, value a b = f a b)
    (hregOp : mul64ROp opc.toNat = some reg) (himmOp : mul64IOp opc.toNat = some imm)
    (hregExec : ∀ d s1 s2 s, exec (reg d s1 s2) s = issue (gprEffect d (value (s.gpr s1) (s.gpr s2))) s)
    (himmExec : ∀ d s1 i s, exec (imm d s1 i) s = issue (gprEffect d (value (s.gpr s1) (s.imm i))) s) :
    RegImmForms 1#1 opc reg imm f where
  regEncoding := decodeSyllable_mul64R hregOp
  immEncoding := decodeSyllable_mul64I himmOp
  regResult s d s1 s2 halone := hvalue _ _ ▸ completes_writesGpr (hregExec d s1 s2 s) halone
  immResult s d s1 i halone := hvalue _ _ ▸ completes_writesGpr (himmExec d s1 i s) halone

/-- Settles O20: each value is the product of its operands' extended halves as words, by `register_mul`. -/
theorem halfWordMultiplyResults : Obligations.HalfWordMultiplyResults := by
  refine ⟨?mull, ?mullu, ?mulh, ?mulhu, ?mulll, ?mulllu, ?mullh, ?mullhu, ?mulhh, ?mulhhu⟩
  case mull => exact regImmForms_of_value mullValue_eq rfl rfl (fun _ _ _ _ => ⟨_, rfl⟩) fun _ _ _ _ => rfl
  case mullu => exact regImmForms_of_value mulluValue_eq rfl rfl (fun _ _ _ _ => ⟨_, rfl⟩) fun _ _ _ _ => rfl
  case mulh => exact regImmForms_of_value mulhValue_eq rfl rfl (fun _ _ _ _ => ⟨_, rfl⟩) fun _ _ _ _ => rfl
  case mulhu => exact regImmForms_of_value mulhuValue_eq rfl rfl (fun _ _ _ _ => ⟨_, rfl⟩) fun _ _ _ _ => rfl
  case mulll => exact regImmForms_of_value mulllValue_eq rfl rfl (fun _ _ _ _ => ⟨_, rfl⟩) fun _ _ _ _ => rfl
  case mulllu => exact regImmForms_of_value mullluValue_eq rfl rfl (fun _ _ _ _ => ⟨_, rfl⟩) fun _ _ _ _ => rfl
  case mullh => exact regImmForms_of_value mullhValue_eq rfl rfl (fun _ _ _ _ => ⟨_, rfl⟩) fun _ _ _ _ => rfl
  case mullhu => exact regImmForms_of_value mullhuValue_eq rfl rfl (fun _ _ _ _ => ⟨_, rfl⟩) fun _ _ _ _ => rfl
  case mulhh => exact regImmForms_of_value mulhhValue_eq rfl rfl (fun _ _ _ _ => ⟨_, rfl⟩) fun _ _ _ _ => rfl
  case mulhhu => exact regImmForms_of_value mulhhuValue_eq rfl rfl (fun _ _ _ _ => ⟨_, rfl⟩) fun _ _ _ _ => rfl

/-- Settles O21: the shifted products are bits of a 64-bit product, by `register_shiftRight`. -/
theorem wordMultiplyResults : Obligations.WordMultiplyResults := by
  refine ⟨?mulhs, ?mulhhs, ?mullhus, ?mul32, ?mul64h, ?mul64hu, ?mulfrac⟩
  case mulhs => exact regImmForms_of_value mulhsValue_eq rfl rfl (fun _ _ _ _ => ⟨_, rfl⟩) fun _ _ _ _ => rfl
  case mulhhs => exact regImmForms_of_value mulhhsValue_eq rfl rfl (fun _ _ _ _ => ⟨_, rfl⟩) fun _ _ _ _ => rfl
  case mullhus => exact regImmForms_of_value mullhusValue_eq rfl rfl (fun _ _ _ _ => ⟨_, rfl⟩) fun _ _ _ _ => rfl
  case mul32 => exact mul64Forms_of_value mul32Value_eq rfl rfl (fun _ _ _ _ => rfl) fun _ _ _ _ => rfl
  case mul64h => exact mul64Forms_of_value mul64hValue_eq rfl rfl (fun _ _ _ _ => rfl) fun _ _ _ _ => rfl
  case mul64hu => exact mul64Forms_of_value mul64huValue_eq rfl rfl (fun _ _ _ _ => rfl) fun _ _ _ _ => rfl
  case mulfrac => exact mul64Forms_of_value mulfracValue_eq rfl rfl (fun _ _ _ _ => rfl) fun _ _ _ _ => rfl

end Sys2Proof.Machine
end

section
/-! A bundle of several operations: the effects its operations have on the state before it, what it ends in, and the
exception it takes if one of them throws (60 R505, R520; 70 R720, R721). -/

namespace Sys2Proof.Machine

/-! ### The operations of a bundle, one after another -/

/-- The effect an operation issues, when the bundle under way gives it this length and this extension. -/
theorem State.evaluates_of_issue {s : State} {words : Nat} {i : Instr} {e : Option (BitVec 23)} {eff : Effect}
    {f : State → Effect} (hexec : ∀ t, exec i t = issue (f t) t)
    (heff : ∀ n pending, f { s with bundle := { words := words, toIssue := n, ext := e, pending := pending } } = eff) :
    s.Evaluates words i e eff where
  notLast n pending := by simp [hexec, heff, issue]
  last pending := by
    rw [hexec, heff, issue, if_pos rfl]
    exact congrArg _ (s.finishBundle_bundle _ { words := words } _ rfl)

theorem length_withNeighbours (left : Option Instr) (ops : List Instr) :
    (withNeighbours left ops).length = ops.length := by
  induction ops generalizing left with
  | nil => rfl
  | cons i rest ih => simp [withNeighbours, ih]

@[simp] theorem length_attachExtensions (ops : List Instr) : (attachExtensions ops).length = ops.length := by
  simp [attachExtensions, length_withNeighbours]

theorem issueAll_cons_of_next {x : Instr × Option (BitVec 23)} {rest : List (Instr × Option (BitVec 23))}
    {s t : State} (h : exec x.1 (s.attach x.2) = .next t) : issueAll (x :: rest) s = issueAll rest t := by
  rw [issueAll, h]

/-- Issued one after another, the operations gather their effects, and the last one finishes the bundle with them. -/
theorem issueAll_of_evaluates {s : State} {words : Nat} {x : Instr × Option (BitVec 23)}
    {rest : List (Instr × Option (BitVec 23))} {es : List Effect}
    (h : List.Forall₂ (fun y eff => s.Evaluates words y.1 y.2 eff) (x :: rest) es) (pending : List Effect) :
    issueAll (x :: rest) { s with bundle := { words := words, toIssue := rest.length, pending := pending } }
      = .next (State.finishBundle { s with bundle := { words := words } } (pending ++ es)) := by
  induction rest generalizing x es pending with
  | nil =>
    obtain _ | ⟨hx, ⟨⟩⟩ := h
    exact issueAll_cons_of_next (hx.last pending)
  | cons y rest ih =>
    obtain _ | ⟨hx, hrest⟩ := h
    rw [List.append_cons pending]
    exact (issueAll_cons_of_next (hx.notLast _ _)).trans (ih hrest _)

/-- A bundle ends in `finishBundle` of its operations' effects. -/
theorem State.runBundle_of_evaluates {s : State} {ops : List Instr} {es : List Effect} (hne : ops ≠ [])
    (h : List.Forall₂ (fun x eff => s.Evaluates ops.length x.1 x.2 eff) (attachExtensions ops) es) :
    s.runBundle ops = .next (State.finishBundle { s with bundle := { words := ops.length } } es) := by
  have hlength := length_attachExtensions ops
  unfold State.runBundle State.openBundle
  cases hops : attachExtensions ops with
  | nil =>
    rw [hops] at hlength
    exact absurd (List.length_eq_zero_iff.mp hlength.symm) hne
  | cons x rest =>
    rw [hops] at h hlength
    rw [← hlength] at h ⊢
    exact issueAll_of_evaluates h []

/-! ### Bundles that throw -/

/-- If an operation throws, the bundle takes the exception of highest priority (60 R505, R520). -/
theorem State.finishBundle_highestPriority {s : State} {es : List Effect} {r : Raised}
    (h : highestPriority (es.filterMap fun e => e.raised) = some r) : s.finishBundle es = s.takeException r := by
  simp only [State.finishBundle, h]

/-- If an operation throws, one of the exceptions thrown has the smallest number, and the bundle takes it. -/
theorem State.finishBundle_of_raised (s : State) {es : List Effect} (h : ∃ e ∈ es, e.raised ≠ none) :
    ∃ r, (∃ e ∈ es, e.raised = some r) ∧ (∀ e ∈ es, ∀ q, e.raised = some q → r.cause.number ≤ q.cause.number)
      ∧ s.finishBundle es = s.takeException r := by
  have hsome : highestPriority (es.filterMap fun e => e.raised) ≠ none := by
    simpa [highestPriority_eq_none, List.filterMap_eq_nil_iff] using h
  obtain ⟨r, hr⟩ := Option.ne_none_iff_exists'.mp hsome
  refine ⟨r, List.mem_filterMap.mp (highestPriority_mem hr), fun e he q hq => ?_,
    State.finishBundle_highestPriority hr⟩
  exact highestPriority_le hr q (List.mem_filterMap.mpr ⟨e, he, hq⟩)

/-- Exception entry does not depend on the bundle under way. -/
theorem Traps.of_bundle {cause : Cause} {addr : Word} {s t : State} {b : BundleCtx}
    (h : Traps cause addr { s with bundle := b } t) : Traps cause addr s t := { h with }

/-- A bundle whose operations throw takes the exception of highest priority and commits nothing. -/
theorem State.runBundle_traps {s : State} {ops : List Instr} {es : List Effect} {r : Raised} (hne : ops ≠ [])
    (hes : List.Forall₂ (fun x eff => s.Evaluates ops.length x.1 x.2 eff) (attachExtensions ops) es)
    (hr : highestPriority (es.filterMap fun e => e.raised) = some r) (htlb : r.tlb = none) :
    ∃ t, s.runBundle ops = .next t ∧ Traps r.cause r.exceptAddress s t := by
  refine ⟨_, State.runBundle_of_evaluates hne hes, ?_⟩
  rw [State.finishBundle_highestPriority hr]
  exact (State.takeException_traps _ r fun _ _ => htlb).of_bundle

/-! ### The operations of the examples -/

/-- add assigns the sum to its destination (40 R251). -/
theorem State.evaluates_addR (s : State) (words : Nat) (d a b : RegNum) (e : Option (BitVec 23)) :
    s.Evaluates words (.addR d a b) e
      { kind := if d = 0#6 ∧ a = 0#6 ∧ b = 0#6 then .nop else .plain
        writes := [.gpr d (addValue (s.gpr a) (s.gpr b))] } :=
  State.evaluates_of_issue (fun _ => rfl) fun _ _ => rfl

/-- sbrk throws SBREAK (45 R473). -/
theorem State.evaluates_sbrk (s : State) (words : Nat) (n : BitVec 21) (e : Option (BitVec 23)) :
    s.Evaluates words (.sbrk n) e { raised := some { cause := .sbreak } } :=
  State.evaluates_of_issue (fun _ => rfl) fun _ _ => rfl

theorem State.ea_eq (s : State) (s1 : RegNum) (i : BitVec 9) : s.ea s1 i = s.gpr s1 + s.imm i := by
  rw [State.ea, register_add, register_sext32, register_sext32, BitVec.add_comm]

/-- What a misaligned word store outside control register space throws: a data breakpoint is checked first (43 R440). -/
def State.misalignedStoreRaised (s : State) (ea : Word) : Raised :=
  { cause := if s.dbreakHit ea then .dbreak else .misalignedTrap, addr := ea }

theorem State.storeWordEffect_misaligned {s : State} {ea : Word} (v : Word)
    (hmis : Width.misaligned .word ea = true) (hcreg : isCRegSpace ea = false) :
    s.storeWordEffect ea v = lsuRaise (s.misalignedStoreRaised ea) := by
  cases hbreak : s.dbreakHit ea <;>
    simp [State.storeWordEffect, State.writeCheck, State.misalignedStoreRaised, hbreak, hmis, hcreg]

/-- A misaligned stw without an extension throws its data breakpoint or MISALIGNED_TRAP (43 R425, R440). -/
theorem State.evaluates_stw_misaligned {s : State} {c : RegNum} {i : BitVec 9}
    (hmis : Width.misaligned .word (s.gpr c + i.signExtend 32) = true)
    (hcreg : isCRegSpace (s.gpr c + i.signExtend 32) = false) (words : Nat) (a : RegNum) :
    s.Evaluates words (.stw c i a) none (lsuRaise (s.misalignedStoreRaised (s.gpr c + i.signExtend 32))) := by
  refine State.evaluates_of_issue (fun _ => rfl) fun n pending => ?_
  rw [State.ea_eq]
  exact State.storeWordEffect_misaligned _ hmis hcreg

/-- SBREAK has priority over what a misaligned store throws (60 R520). -/
theorem State.sbreak_lt_misalignedStore (s : State) (ea : Word) :
    Cause.sbreak.number < (s.misalignedStoreRaised ea).cause.number := by
  cases hbreak : s.dbreakHit ea <;> simp [State.misalignedStoreRaised, hbreak, Cause.number]

/-- Settles O11: `finishBundle_of_raised` for any effects, and `runBundle_traps` for the two bundles, of whose effects
SBREAK comes before the store's exception. -/
theorem throwingBundleCommitsNothing : Obligations.ThrowingBundleCommitsNothing := by
  refine ⟨fun s es hraised htlb => ?_, fun s d a b c i n _ hmis hcreg => ?_⟩
  · obtain ⟨r, ⟨e, he, hr⟩, hleast, hfinish⟩ := s.finishBundle_of_raised hraised
    exact ⟨r, ⟨e, he, hr⟩, hleast, hfinish ▸ s.takeException_traps r (htlb e he r hr)⟩
  · have hadd (words : Nat) := s.evaluates_addR words d a b none
    have hstw (words : Nat) := State.evaluates_stw_misaligned hmis hcreg words a
    constructor
    · refine State.runBundle_traps (r := { cause := .sbreak }) (List.cons_ne_nil _ _)
        (.cons (hadd 3) (.cons (hstw 3) (.cons (s.evaluates_sbrk 3 n none) .nil))) ?_ rfl
      simp [lsuRaise, highestPriority, s.sbreak_lt_misalignedStore]
    · intro hbreak
      refine State.runBundle_traps (r := { cause := .misalignedTrap, addr := s.gpr c + i.signExtend 32 })
        (List.cons_ne_nil _ _) (.cons (hadd 2) (.cons (hstw 2) .nil)) ?_ rfl
      simp [lsuRaise, State.misalignedStoreRaised, hbreak]

end Sys2Proof.Machine
end

section
/-! Decoding and encoding are inverse (30 R206, R210 to R215). The words of the encoder are those of the formats above;
what the formats above do not cover, the Specific, Memory and Control transfer formats, follows here. -/

namespace Sys2Proof.Machine

/-! ### The encoder's words as those of the formats above -/

theorem encInt3R_eq (stop : Bool) (opc : BitVec 5) (d s1 s2 : RegNum) :
    encInt3R stop opc d s1 s2 = regWord (stopBits stop) 0#1 opc d s2 s1 := by
  have hformat : (stopBits stop ++ 0b00000#5 : BitVec 6) = stopBits stop ++ 0#1 ++ 0b00#2 ++ 0#1 ++ 0#1 := by
    cases stop <;> rfl
  exact congrArg (fun x : BitVec 6 => (x ++ opc ++ 0#3 ++ d ++ s2 ++ s1 : Word)) hformat

theorem encMul64R_eq (stop : Bool) (opc : BitVec 5) (d s1 s2 : RegNum) :
    encMul64R stop opc d s1 s2 = regWord (stopBits stop) 1#1 opc d s2 s1 := by
  have hformat : (stopBits stop ++ 0b00001#5 : BitVec 6) = stopBits stop ++ 0#1 ++ 0b00#2 ++ 0#1 ++ 1#1 := by
    cases stop <;> rfl
  exact congrArg (fun x : BitVec 6 => (x ++ opc ++ 0#3 ++ d ++ s2 ++ s1 : Word)) hformat

theorem encInt3I_eq (stop : Bool) (opc : BitVec 5) (d s1 : RegNum) (i : BitVec 9) :
    encInt3I stop opc d s1 i = immWord (stopBits stop) 0#1 opc i d s1 := by
  have hformat : (stopBits stop ++ 0b00010#5 : BitVec 6) = stopBits stop ++ 0#1 ++ 0b00#2 ++ 1#1 ++ 0#1 := by
    cases stop <;> rfl
  exact congrArg (fun x : BitVec 6 => (x ++ opc ++ i ++ d ++ s1 : Word)) hformat

theorem encMul64I_eq (stop : Bool) (opc : BitVec 5) (d s1 : RegNum) (i : BitVec 9) :
    encMul64I stop opc d s1 i = immWord (stopBits stop) 1#1 opc i d s1 := by
  have hformat : (stopBits stop ++ 0b00011#5 : BitVec 6) = stopBits stop ++ 0#1 ++ 0b00#2 ++ 1#1 ++ 1#1 := by
    cases stop <;> rfl
  exact congrArg (fun x : BitVec 6 => (x ++ opc ++ i ++ d ++ s1 : Word)) hformat

theorem encCmpRR_eq (stop : Bool) (opc : BitVec 4) (d s1 s2 : RegNum) :
    encCmpRR stop opc d s1 s2 = regWord (stopBits stop) 1#1 (0#1 ++ opc) d s2 s1 := by
  have hformat : ∀ (stop : Bool) (opc : BitVec 4), (stopBits stop ++ 0b000010#6 ++ opc : BitVec 11)
      = stopBits stop ++ 0#1 ++ 0b00#2 ++ 0#1 ++ 1#1 ++ (0#1 ++ opc) := by decide
  exact congrArg (fun x : BitVec 11 => (x ++ 0#3 ++ d ++ s2 ++ s1 : Word)) (hformat stop opc)

theorem encCmpBR_eq (stop : Bool) (opc : BitVec 4) (b : BrNum) (s1 s2 : RegNum) :
    encCmpBR stop opc b s1 s2 = compareBranchWord (stopBits stop) opc b s2 s1 := by
  have hformat : (stopBits stop ++ 0b000011#6 : BitVec 7) = stopBits stop ++ 0#1 ++ 0b00#2 ++ 0b011#3 := by
    cases stop <;> rfl
  exact congrArg (fun x : BitVec 7 => (x ++ opc ++ b ++ 0#6 ++ s2 ++ s1 : Word)) hformat

theorem encCmpRI_eq (stop : Bool) (opc : BitVec 4) (d s1 : RegNum) (i : BitVec 9) :
    encCmpRI stop opc d s1 i = immWord (stopBits stop) 1#1 (0#1 ++ opc) i d s1 := by
  have hformat : ∀ (stop : Bool) (opc : BitVec 4), (stopBits stop ++ 0b000110#6 ++ opc : BitVec 11)
      = stopBits stop ++ 0#1 ++ 0b00#2 ++ 1#1 ++ 1#1 ++ (0#1 ++ opc) := by decide
  exact congrArg (fun x : BitVec 11 => (x ++ i ++ d ++ s1 : Word)) (hformat stop opc)

theorem encCmpBI_eq (stop : Bool) (opc : BitVec 4) (b : BrNum) (s1 : RegNum) (i : BitVec 9) :
    encCmpBI stop opc b s1 i = immWord (stopBits stop) 1#1 (1#1 ++ opc) i (0#3 ++ b) s1 := by
  have hformat : ∀ (stop : Bool) (opc : BitVec 4), (stopBits stop ++ 0b000111#6 ++ opc : BitVec 11)
      = stopBits stop ++ 0#1 ++ 0b00#2 ++ 1#1 ++ 1#1 ++ (1#1 ++ opc) := by decide
  have hdest (x : BitVec 20) : (x ++ 0#3 ++ b : BitVec 26) = x ++ (0#3 ++ b) := by
    rw [BitVec.append_assoc (x₁ := x), BitVec.cast_eq]
  exact (congrArg (fun x : BitVec 26 => (x ++ s1 : Word)) (hdest _)).trans
    (congrArg (fun x : BitVec 11 => (x ++ i ++ (0#3 ++ b) ++ s1 : Word)) (hformat stop opc))

theorem encSelectR_eq (stop : Bool) (opc : BitVec 3) (d : RegNum) (c : BrNum) (s1 s2 : RegNum) :
    encSelectR stop opc d c s1 s2 = selectRegWord (stopBits stop) opc c d s2 s1 := by
  have hformat : (stopBits stop ++ 0b0010#4 : BitVec 5) = stopBits stop ++ 0#1 ++ 0b01#2 ++ 0#1 := by
    cases stop <;> rfl
  exact congrArg (fun x : BitVec 5 => (x ++ opc ++ c ++ 0#3 ++ d ++ s2 ++ s1 : Word)) hformat

theorem encSelectI_eq (stop : Bool) (opc : BitVec 3) (d : RegNum) (c : BrNum) (s1 : RegNum) (i : BitVec 9) :
    encSelectI stop opc d c s1 i = selectImmWord (stopBits stop) opc c i d s1 := by
  have hformat : (stopBits stop ++ 0b0011#4 : BitVec 5) = stopBits stop ++ 0#1 ++ 0b01#2 ++ 1#1 := by
    cases stop <;> rfl
  exact congrArg (fun x : BitVec 5 => (x ++ opc ++ c ++ i ++ d ++ s1 : Word)) hformat

theorem encCgen_eq (stop : Bool) (opc : BitVec 4) (d : RegNum) (b c : BrNum) (s1 s2 : RegNum) :
    encCgen stop opc d b c s1 s2 = carryWord (stopBits stop) opc c b d s2 s1 := by
  have hformat : (stopBits stop ++ 0b001#3 : BitVec 4) = stopBits stop ++ 0#1 ++ 0b01#2 := by
    cases stop <;> rfl
  exact congrArg (fun x : BitVec 4 => (x ++ opc ++ c ++ b ++ d ++ s2 ++ s1 : Word)) hformat

end Sys2Proof.Machine
end

section
/-! What the words of the Memory, Control transfer and the rest of the Specific format decode to (30 R213 to R215). -/

namespace Sys2Proof.Machine

/-- Two fields that meet make one. -/
theorem extractLsb'_join (w : Word) (lo m n : Nat) :
    w.extractLsb' (lo + n) m ++ w.extractLsb' lo n = w.extractLsb' lo (m + n) :=
  BitVec.extractLsb'_append_extractLsb'_eq_extractLsb' rfl

/-! ### The Memory format -/

theorem encMemory_eq (stop : Bool) (opc : BitVec 5) (i : BitVec 9) (r s1 : RegNum) :
    encMemory stop opc i r s1 = memoryWord (stopBits stop) opc i r s1 := by
  have hformat : (stopBits stop ++ 0b010#3 : BitVec 4) = stopBits stop ++ 0#1 ++ 0b10#2 := by cases stop <;> rfl
  exact congrArg (fun x : BitVec 4 => (x ++ opc ++ 0#2 ++ i ++ r ++ s1 : Word)) hformat

theorem memoryWord_fields (stop : BitVec 1) (opc : BitVec 5) (i : BitVec 9) (r s1 : RegNum) :
    fieldIsrc2 (memoryWord stop opc i r s1) = i ∧ (memoryWord stop opc i r s1).extractLsb' 6 6 = r
      ∧ fieldSrc1 (memoryWord stop opc i r s1) = s1 ∧ (memoryWord stop opc i r s1).extractLsb' 23 5 = opc
      ∧ (memoryWord stop opc i r s1).extractLsb' 21 2 = 0#2 := by
  simp [-Nat.reduceAdd, fieldIsrc2, fieldSrc1, memoryWord, BitVec.extractLsb'_append_eq_of_le,
    BitVec.extractLsb'_append_eq_of_add_le]

/-- Bits 30:28 of the word select the Memory format (30 R210). -/
theorem memoryWord_format (stop : BitVec 1) (opc : BitVec 5) (i : BitVec 9) (r s1 : RegNum) :
    (memoryWord stop opc i r s1).getLsbD 30 = false ∧ (memoryWord stop opc i r s1).extractLsb' 28 2 = 2#2 := by
  refine ⟨?_, ?_⟩
  · simp only [memoryWord, BitVec.getLsbD_append]; rfl
  · simp [-Nat.reduceAdd, memoryWord, BitVec.extractLsb'_append_eq_of_le, BitVec.extractLsb'_append_eq_of_add_le]

theorem decodeSyllable_memoryWord (stop : BitVec 1) (opc : BitVec 5) (i : BitVec 9) (r s1 : RegNum) :
    decodeSyllable (memoryWord stop opc i r s1) = decodeMemory (memoryWord stop opc i r s1) := by
  obtain ⟨h30, h28⟩ := memoryWord_format stop opc i r s1
  simp [-BitVec.getLsbD_eq_getElem, decodeSyllable, h30, h28]

theorem decodeSyllable_load {opc : BitVec 5} {op : RegNum → RegNum → BitVec 9 → Instr}
    (hop : loadOp opc.toNat = some op) (stop : BitVec 1) (i : BitVec 9) (d s1 : RegNum) :
    decodeSyllable (memoryWord stop opc i d s1) = .ok (op d s1 i) := by
  obtain ⟨hisrc2, hdest, hsrc1, hopc, hunused⟩ := memoryWord_fields stop opc i d s1
  simp [decodeSyllable_memoryWord, decodeMemory, whenZero, fieldIdest, *]

theorem decodeSyllable_store {opc : BitVec 5} {op : RegNum → BitVec 9 → RegNum → Instr}
    (hload : loadOp opc.toNat = none) (hop : storeOp opc.toNat = some op) (stop : BitVec 1) (i : BitVec 9)
    (s2 s1 : RegNum) : decodeSyllable (memoryWord stop opc i s2 s1) = .ok (op s1 i s2) := by
  obtain ⟨hisrc2, hsrc2, hsrc1, hopc, hunused⟩ := memoryWord_fields stop opc i s2 s1
  simp [decodeSyllable_memoryWord, decodeMemory, whenZero, fieldSrc2, *]

theorem decodeSyllable_address {opc : BitVec 5} {op : RegNum → BitVec 9 → Instr} (hload : loadOp opc.toNat = none)
    (hstore : storeOp opc.toNat = none) (hop : addressOp opc.toNat = some op) (stop : BitVec 1) (i : BitVec 9)
    (s1 : RegNum) : decodeSyllable (memoryWord stop opc i 0#6 s1) = .ok (op s1 i) := by
  obtain ⟨hisrc2, hzero, hsrc1, hopc, hunused⟩ := memoryWord_fields stop opc i 0#6 s1
  simp [decodeSyllable_memoryWord, decodeMemory, decodeAddress, *]

/-- pswset and pswclr: every bit between the opcode and SRC2, and every bit below it, is zero (30 R214). -/
theorem decodePsw_memoryWord (stop : BitVec 1) (opc : BitVec 5) (s2 : RegNum) (i : Instr) :
    decodePsw (memoryWord stop opc 0#9 s2 0#6) i = .ok i := by
  obtain ⟨hisrc2, -, hsrc1, -, hunused⟩ := memoryWord_fields stop opc 0#9 s2 0#6
  have hmiddle : (memoryWord stop opc 0#9 s2 0#6).extractLsb' 12 11 = 0#2 ++ 0#9 :=
    (extractLsb'_join _ 12 2 9).symm.trans (congrArg₂ (· ++ ·) hunused hisrc2)
  exact if_pos ⟨hmiddle, hsrc1⟩

theorem decodeSyllable_pswset (stop : BitVec 1) (s2 : RegNum) :
    decodeSyllable (memoryWord stop 0b10010#5 0#9 s2 0#6) = .ok (.pswset s2) := by
  obtain ⟨-, hsrc2, -, hopc, -⟩ := memoryWord_fields stop 0b10010#5 0#9 s2 0#6
  simp [decodeSyllable_memoryWord, decodeMemory, hopc, loadOp, storeOp, addressOp, decodePsw_memoryWord, fieldSrc2,
    hsrc2]

theorem decodeSyllable_pswclr (stop : BitVec 1) (s2 : RegNum) :
    decodeSyllable (memoryWord stop 0b10011#5 0#9 s2 0#6) = .ok (.pswclr s2) := by
  obtain ⟨-, hsrc2, -, hopc, -⟩ := memoryWord_fields stop 0b10011#5 0#9 s2 0#6
  simp [decodeSyllable_memoryWord, decodeMemory, hopc, loadOp, storeOp, addressOp, decodePsw_memoryWord, fieldSrc2,
    hsrc2]

/-! ### Immediate extensions, sbrk and syscall -/

theorem encImm_eq (stop : Bool) (opc : BitVec 5) (v : BitVec 23) :
    encImm stop opc v = stopBits stop ++ 0#1 ++ 0b01#2 ++ opc ++ v := by
  have hformat : (stopBits stop ++ 0b001#3 : BitVec 4) = stopBits stop ++ 0#1 ++ 0b01#2 := by cases stop <;> rfl
  exact congrArg (fun x : BitVec 4 => (x ++ opc ++ v : Word)) hformat

theorem encImm_format (stop : Bool) (opc : BitVec 5) (v : BitVec 23) :
    (encImm stop opc v).getLsbD 30 = false ∧ (encImm stop opc v).extractLsb' 28 2 = 1#2
      ∧ (encImm stop opc v).extractLsb' 23 5 = opc ∧ fieldImm (encImm stop opc v) = v := by
  rw [encImm_eq]
  refine ⟨?_, ?_⟩
  · simp only [BitVec.getLsbD_append]; rfl
  · simp [-Nat.reduceAdd, fieldImm, BitVec.extractLsb'_append_eq_of_le, BitVec.extractLsb'_append_eq_of_add_le]

/-- Bit 23 tells immr from imml (30 R213). -/
theorem decodeSyllable_encImm (stop right : Bool) (v : BitVec 23) :
    decodeSyllable (encImm stop (0b0101#4 ++ BitVec.ofBool right) v) = .ok (if right then .immr v else .imml v) := by
  obtain ⟨h30, h28, hopc, himm⟩ := encImm_format stop (0b0101#4 ++ BitVec.ofBool right) v
  obtain ⟨h24, h23⟩ := extractLsb'_parts (m := 4) (n := 1) hopc
  have hright : (encImm stop (0b0101#4 ++ BitVec.ofBool right) v).getLsbD 23 = right := by
    simpa using congrArg (fun x : BitVec 1 => x.getLsbD 0) h23
  generalize encImm stop (0b0101#4 ++ BitVec.ofBool right) v = w at *
  cases right <;> simp [-BitVec.getLsbD_eq_getElem, decodeSyllable, decodeSpecific, *]

theorem encSystem_eq (stop : Bool) (opc : BitVec 3) (n : BitVec 21) :
    encSystem stop (0b1111#4 ++ opc) n = stopBits stop ++ 0#1 ++ 0b01#2 ++ 0b1111#4 ++ opc ++ n := by
  have hformat : ∀ (stop : Bool) (opc : BitVec 3), (stopBits stop ++ 0b001#3 ++ (0b1111#4 ++ opc) : BitVec 11)
      = stopBits stop ++ 0#1 ++ 0b01#2 ++ 0b1111#4 ++ opc := by decide
  exact congrArg (fun x : BitVec 11 => (x ++ n : Word)) (hformat stop opc)

theorem encSystem_format (stop : Bool) (opc : BitVec 3) (n : BitVec 21) :
    (encSystem stop (0b1111#4 ++ opc) n).getLsbD 30 = false
      ∧ (encSystem stop (0b1111#4 ++ opc) n).extractLsb' 28 2 = 1#2
      ∧ (encSystem stop (0b1111#4 ++ opc) n).extractLsb' 24 4 = 0b1111#4
      ∧ (encSystem stop (0b1111#4 ++ opc) n).extractLsb' 21 3 = opc
      ∧ fieldSbrkNum (encSystem stop (0b1111#4 ++ opc) n) = n := by
  rw [encSystem_eq]
  refine ⟨?_, ?_⟩
  · simp only [BitVec.getLsbD_append]; rfl
  · simp [-Nat.reduceAdd, fieldSbrkNum, BitVec.extractLsb'_append_eq_of_le, BitVec.extractLsb'_append_eq_of_add_le]

theorem decodeSyllable_encSystem (stop : Bool) (opc : BitVec 3) (n : BitVec 21) :
    decodeSyllable (encSystem stop (0b1111#4 ++ opc) n) = decodeSystem (encSystem stop (0b1111#4 ++ opc) n) := by
  obtain ⟨h30, h28, hspecific, -, -⟩ := encSystem_format stop opc n
  simp [-BitVec.getLsbD_eq_getElem, decodeSyllable, decodeSpecific, h30, h28, hspecific]

/-- sbrk is valid with its stop bit only, and its encoding has it (30 R223). -/
theorem decodeSyllable_sbrk (n : BitVec 21) : decodeSyllable (encSystem true 0b1111101#7 n) = .ok (.sbrk n) := by
  have hstop : stopBit (encSystem true 0b1111101#7 n) = true := Laws.encSystem_stop _ n
  obtain ⟨-, -, -, hopc, hnum⟩ := encSystem_format true 0b101#3 n
  refine (decodeSyllable_encSystem true 0b101#3 n).trans ?_
  simp only [decodeSystem, hopc, hnum]
  exact if_pos hstop

theorem decodeSyllable_syscall (stop : Bool) (n : BitVec 21) :
    decodeSyllable (encSystem stop 0b1111110#7 n) = .ok (.syscall n) := by
  obtain ⟨-, -, -, hopc, hnum⟩ := encSystem_format stop 0b110#3 n
  refine (decodeSyllable_encSystem stop 0b110#3 n).trans ?_
  simp only [decodeSystem, hopc, hnum]; rfl

/-! ### Control transfers -/

theorem encCall_eq (stop : Bool) (opc : BitVec 3) (lnk : BitVec 1) (t : BitVec 23) :
    encCall stop opc lnk t = stopBits stop ++ 0#1 ++ 0b11#2 ++ 0#1 ++ (opc ++ lnk) ++ t := by
  have hformat : ∀ (stop : Bool) (opc : BitVec 3) (lnk : BitVec 1), (stopBits stop ++ 0b0110#4 ++ opc ++ lnk : BitVec 9)
      = stopBits stop ++ 0#1 ++ 0b11#2 ++ 0#1 ++ (opc ++ lnk) := by decide
  exact congrArg (fun x : BitVec 9 => (x ++ t : Word)) (hformat stop opc lnk)

theorem encCall_format (stop : Bool) (opc : BitVec 3) (lnk : BitVec 1) (t : BitVec 23) :
    (encCall stop opc lnk t).getLsbD 30 = false ∧ (encCall stop opc lnk t).extractLsb' 28 2 = 3#2
      ∧ (encCall stop opc lnk t).getLsbD 27 = false ∧ (encCall stop opc lnk t).extractLsb' 23 4 = opc ++ lnk
      ∧ fieldBtarg (encCall stop opc lnk t) = t := by
  rw [encCall_eq]
  refine ⟨?_, ?_, ?_, ?_⟩
  · simp only [BitVec.getLsbD_append]; rfl
  · simp [-Nat.reduceAdd, BitVec.extractLsb'_append_eq_of_le, BitVec.extractLsb'_append_eq_of_add_le]
  · simp only [BitVec.getLsbD_append]; rfl
  · simp [-Nat.reduceAdd, fieldBtarg, BitVec.extractLsb'_append_eq_of_le, BitVec.extractLsb'_append_eq_of_add_le]

theorem decodeSyllable_call (stop : Bool) (t : BitVec 23) :
    decodeSyllable (encCall stop 0b000#3 0b0#1 t) = .ok (.call t) := by
  obtain ⟨h30, h28, h27, hopc, htarget⟩ := encCall_format stop 0b000#3 0b0#1 t
  simp [-BitVec.getLsbD_eq_getElem, decodeSyllable, decodeControl, *]

theorem decodeSyllable_goto (stop : Bool) (t : BitVec 23) :
    decodeSyllable (encCall stop 0b001#3 0b0#1 t) = .ok (.goto t) := by
  obtain ⟨h30, h28, h27, hopc, htarget⟩ := encCall_format stop 0b001#3 0b0#1 t
  simp [-BitVec.getLsbD_eq_getElem, decodeSyllable, decodeControl, *]

theorem encBranch_eq (stop : Bool) (opc : BitVec 1) (c : BrNum) (t : BitVec 23) :
    encBranch stop opc c t = stopBits stop ++ 0#1 ++ 0b11#2 ++ 1#1 ++ opc ++ c ++ t := by
  have hformat : (stopBits stop ++ 0b0111#4 : BitVec 5) = stopBits stop ++ 0#1 ++ 0b11#2 ++ 1#1 := by
    cases stop <;> rfl
  exact congrArg (fun x : BitVec 5 => (x ++ opc ++ c ++ t : Word)) hformat

theorem encBranch_format (stop : Bool) (opc : BitVec 1) (c : BrNum) (t : BitVec 23) :
    (encBranch stop opc c t).getLsbD 30 = false ∧ (encBranch stop opc c t).extractLsb' 28 2 = 3#2
      ∧ (encBranch stop opc c t).getLsbD 27 = true ∧ (encBranch stop opc c t).getLsbD 26 = opc.getLsbD 0
      ∧ fieldBcond (encBranch stop opc c t) = c ∧ fieldBtarg (encBranch stop opc c t) = t := by
  rw [encBranch_eq]
  refine ⟨?_, ?_, ?_, ?_, ?_⟩
  · simp only [BitVec.getLsbD_append]; rfl
  · simp [-Nat.reduceAdd, BitVec.extractLsb'_append_eq_of_le, BitVec.extractLsb'_append_eq_of_add_le]
  · simp only [BitVec.getLsbD_append]; rfl
  · simp only [BitVec.getLsbD_append]; rfl
  · simp [-Nat.reduceAdd, fieldBcond, fieldBtarg, BitVec.extractLsb'_append_eq_of_le,
      BitVec.extractLsb'_append_eq_of_add_le]

theorem decodeSyllable_br (stop : Bool) (c : BrNum) (t : BitVec 23) :
    decodeSyllable (encBranch stop 0b0#1 c t) = .ok (.br c t) := by
  obtain ⟨h30, h28, h27, h26, hcond, htarget⟩ := encBranch_format stop 0b0#1 c t
  simp [-BitVec.getLsbD_eq_getElem, decodeSyllable, decodeControl, *]

theorem decodeSyllable_brf (stop : Bool) (c : BrNum) (t : BitVec 23) :
    decodeSyllable (encBranch stop 0b1#1 c t) = .ok (.brf c t) := by
  obtain ⟨h30, h28, h27, h26, hcond, htarget⟩ := encBranch_format stop 0b1#1 c t
  simp [-BitVec.getLsbD_eq_getElem, decodeSyllable, decodeControl, *]

end Sys2Proof.Machine
end

section
/-! The encoder's words, format by format, decode to what they encode. -/

namespace Sys2Proof.Machine

theorem decodeSyllable_encInt3R {opc : BitVec 5} {op : RegNum → RegNum → RegNum → Instr}
    (hop : int3ROp opc.toNat = some op) (stop : Bool) (d s1 s2 : RegNum) :
    decodeSyllable (encInt3R stop opc d s1 s2) = .ok (op d s1 s2) :=
  (encInt3R_eq ..).symm ▸ decodeSyllable_regWord hop (stopBits stop) d s2 s1

theorem decodeSyllable_encInt3I {opc : BitVec 5} {op : RegNum → RegNum → BitVec 9 → Instr}
    (hop : int3IOp opc.toNat = some op) (stop : Bool) (d s1 : RegNum) (i : BitVec 9) :
    decodeSyllable (encInt3I stop opc d s1 i) = .ok (op d s1 i) :=
  (encInt3I_eq ..).symm ▸ decodeSyllable_immWord hop (stopBits stop) i d s1

theorem decodeSyllable_encMonadic {sub : BitVec 9} {op : RegNum → RegNum → Instr}
    (hop : monadicOp sub.toNat = some op) (stop : Bool) (d s1 : RegNum) :
    decodeSyllable (encInt3I stop 0b01110#5 d s1 sub) = .ok (op d s1) :=
  (encInt3I_eq ..).symm ▸ decodeSyllable_monadic hop (stopBits stop) d s1

theorem decodeSyllable_encCmpRR {opc : BitVec 4} {op : RegNum → RegNum → RegNum → Instr} (hopc : opc.toNat < 14)
    (hop : cmpRROp opc.toNat = some op) (stop : Bool) (d s1 s2 : RegNum) :
    decodeSyllable (encCmpRR stop opc d s1 s2) = .ok (op d s1 s2) :=
  (encCmpRR_eq ..).symm ▸ decodeSyllable_compareRR hopc hop (stopBits stop) d s2 s1

theorem decodeSyllable_encCmpBR {opc : BitVec 4} {op : BrNum → RegNum → RegNum → Instr} (hopc : opc.toNat < 14)
    (hop : cmpBROp opc.toNat = some op) (stop : Bool) (b : BrNum) (s1 s2 : RegNum) :
    decodeSyllable (encCmpBR stop opc b s1 s2) = .ok (op b s1 s2) :=
  (encCmpBR_eq ..).symm ▸ decodeSyllable_compareBR hopc hop (stopBits stop) b s2 s1

theorem decodeSyllable_encCmpRI {opc : BitVec 4} {op : RegNum → RegNum → BitVec 9 → Instr} (hopc : opc.toNat < 14)
    (hop : cmpRIOp opc.toNat = some op) (stop : Bool) (d s1 : RegNum) (i : BitVec 9) :
    decodeSyllable (encCmpRI stop opc d s1 i) = .ok (op d s1 i) :=
  (encCmpRI_eq ..).symm ▸ decodeSyllable_compareRI hopc hop (stopBits stop) i d s1

theorem decodeSyllable_encCmpBI {opc : BitVec 4} {op : BrNum → RegNum → BitVec 9 → Instr} (hopc : opc.toNat < 14)
    (hop : cmpBIOp opc.toNat = some op) (stop : Bool) (b : BrNum) (s1 : RegNum) (i : BitVec 9) :
    decodeSyllable (encCmpBI stop opc b s1 i) = .ok (op b s1 i) :=
  (encCmpBI_eq ..).symm ▸ decodeSyllable_compareBI hopc hop (stopBits stop) i b s1

theorem decodeSyllable_encMul64R {opc : BitVec 5} {op : RegNum → RegNum → RegNum → Instr}
    (hop : mul64ROp opc.toNat = some op) (stop : Bool) (d s1 s2 : RegNum) :
    decodeSyllable (encMul64R stop opc d s1 s2) = .ok (op d s1 s2) :=
  (encMul64R_eq ..).symm ▸ decodeSyllable_mul64R hop (stopBits stop) d s2 s1

theorem decodeSyllable_encMul64I {opc : BitVec 5} {op : RegNum → RegNum → BitVec 9 → Instr}
    (hop : mul64IOp opc.toNat = some op) (stop : Bool) (d s1 : RegNum) (i : BitVec 9) :
    decodeSyllable (encMul64I stop opc d s1 i) = .ok (op d s1 i) :=
  (encMul64I_eq ..).symm ▸ decodeSyllable_mul64I hop (stopBits stop) i d s1

theorem decodeSyllable_encLoad {opc : BitVec 5} {op : RegNum → RegNum → BitVec 9 → Instr}
    (hop : loadOp opc.toNat = some op) (stop : Bool) (d s1 : RegNum) (i : BitVec 9) :
    decodeSyllable (encMemory stop opc i d s1) = .ok (op d s1 i) :=
  (encMemory_eq ..).symm ▸ decodeSyllable_load hop (stopBits stop) i d s1

theorem decodeSyllable_encStore {opc : BitVec 5} {op : RegNum → BitVec 9 → RegNum → Instr}
    (hload : loadOp opc.toNat = none) (hop : storeOp opc.toNat = some op) (stop : Bool) (s1 : RegNum) (i : BitVec 9)
    (s2 : RegNum) : decodeSyllable (encMemory stop opc i s2 s1) = .ok (op s1 i s2) :=
  (encMemory_eq ..).symm ▸ decodeSyllable_store hload hop (stopBits stop) i s2 s1

theorem decodeSyllable_encAddress {opc : BitVec 5} {op : RegNum → BitVec 9 → Instr} (hload : loadOp opc.toNat = none)
    (hstore : storeOp opc.toNat = none) (hop : addressOp opc.toNat = some op) (stop : Bool) (s1 : RegNum)
    (i : BitVec 9) : decodeSyllable (encMemory stop opc i 0#6 s1) = .ok (op s1 i) :=
  (encMemory_eq ..).symm ▸ decodeSyllable_address hload hstore hop (stopBits stop) i s1

/-- Every operation's word decodes to it: by the format the operation is encoded in. -/
theorem decodeSyllable_encodeSyllable (stop : Bool) (i : Instr) : decodeSyllable (encodeSyllable stop i) = .ok i := by
  cases i with
  | addR d s1 s2 | subR d s1 s2 | shlR d s1 s2 | shrR d s1 s2 | shruR d s1 s2 | sh1addR d s1 s2
  | sh2addR d s1 s2 | sh3addR d s1 s2 | sh4addR d s1 s2 | andR d s1 s2 | andcR d s1 s2 | orR d s1 s2
  | orcR d s1 s2 | xorR d s1 s2 | maxR d s1 s2 | maxuR d s1 s2 | minR d s1 s2 | minuR d s1 s2
  | mullhusR d s1 s2 | mulhhsR d s1 s2 | mullR d s1 s2 | mulluR d s1 s2 | mulhR d s1 s2 | mulhuR d s1 s2
  | mulllR d s1 s2 | mullluR d s1 s2 | mullhR d s1 s2 | mullhuR d s1 s2 | mulhhR d s1 s2 | mulhhuR d s1 s2
  | mulhsR d s1 s2 =>
    exact decodeSyllable_encInt3R (by rfl) stop d s1 s2
  | addI d s1 i | subI d s1 i | shlI d s1 i | shrI d s1 i | shruI d s1 i | sh1addI d s1 i | sh2addI d s1 i
  | sh3addI d s1 i | sh4addI d s1 i | andI d s1 i | andcI d s1 i | orI d s1 i | orcI d s1 i | xorI d s1 i
  | maxI d s1 i | maxuI d s1 i | minI d s1 i | minuI d s1 i | mullhusI d s1 i | mulhhsI d s1 i | mullI d s1 i
  | mulluI d s1 i | mulhI d s1 i | mulhuI d s1 i | mulllI d s1 i | mullluI d s1 i | mullhI d s1 i
  | mullhuI d s1 i | mulhhI d s1 i | mulhhuI d s1 i | mulhsI d s1 i =>
    exact decodeSyllable_encInt3I (by rfl) stop d s1 i
  | sxtb d s1 | sxth d s1 | bswap d s1 | zxth d s1 | clz d s1 =>
    exact decodeSyllable_encMonadic (by rfl) stop d s1
  | cmpeqRR d s1 s2 | cmpneRR d s1 s2 | cmpgeRR d s1 s2 | cmpgeuRR d s1 s2 | cmpgtRR d s1 s2 | cmpgtuRR d s1 s2
  | cmpleRR d s1 s2 | cmpleuRR d s1 s2 | cmpltRR d s1 s2 | cmpltuRR d s1 s2 | andlRR d s1 s2 | nandlRR d s1 s2
  | orlRR d s1 s2 | norlRR d s1 s2 =>
    exact decodeSyllable_encCmpRR (by decide) (by rfl) stop d s1 s2
  | cmpeqBR b s1 s2 | cmpneBR b s1 s2 | cmpgeBR b s1 s2 | cmpgeuBR b s1 s2 | cmpgtBR b s1 s2 | cmpgtuBR b s1 s2
  | cmpleBR b s1 s2 | cmpleuBR b s1 s2 | cmpltBR b s1 s2 | cmpltuBR b s1 s2 | andlBR b s1 s2 | nandlBR b s1 s2
  | orlBR b s1 s2 | norlBR b s1 s2 =>
    exact decodeSyllable_encCmpBR (by decide) (by rfl) stop b s1 s2
  | cmpeqRI d s1 i | cmpneRI d s1 i | cmpgeRI d s1 i | cmpgeuRI d s1 i | cmpgtRI d s1 i | cmpgtuRI d s1 i
  | cmpleRI d s1 i | cmpleuRI d s1 i | cmpltRI d s1 i | cmpltuRI d s1 i | andlRI d s1 i | nandlRI d s1 i
  | orlRI d s1 i | norlRI d s1 i =>
    exact decodeSyllable_encCmpRI (by decide) (by rfl) stop d s1 i
  | cmpeqBI b s1 i | cmpneBI b s1 i | cmpgeBI b s1 i | cmpgeuBI b s1 i | cmpgtBI b s1 i | cmpgtuBI b s1 i
  | cmpleBI b s1 i | cmpleuBI b s1 i | cmpltBI b s1 i | cmpltuBI b s1 i | andlBI b s1 i | nandlBI b s1 i
  | orlBI b s1 i | norlBI b s1 i =>
    exact decodeSyllable_encCmpBI (by decide) (by rfl) stop b s1 i
  | mul32R d s1 s2 | mul64hR d s1 s2 | mul64huR d s1 s2 | mulfracR d s1 s2 =>
    exact decodeSyllable_encMul64R (by rfl) stop d s1 s2
  | mul32I d s1 i | mul64hI d s1 i | mul64huI d s1 i | mulfracI d s1 i =>
    exact decodeSyllable_encMul64I (by rfl) stop d s1 i
  | slctR d c s1 s2 =>
    exact (congrArg decodeSyllable (encSelectR_eq ..)).trans (decodeSyllable_slctR (stopBits stop) c d s2 s1)
  | slctI d c s1 i =>
    exact (congrArg decodeSyllable (encSelectI_eq ..)).trans (decodeSyllable_slctI (stopBits stop) c i d s1)
  | slctfR d c s1 s2 =>
    exact (congrArg decodeSyllable (encSelectR_eq ..)).trans (decodeSyllable_slctfR (stopBits stop) c d s2 s1)
  | slctfI d c s1 i =>
    exact (congrArg decodeSyllable (encSelectI_eq ..)).trans (decodeSyllable_slctfI (stopBits stop) c i d s1)
  | addcg d b c s1 s2 =>
    exact (congrArg decodeSyllable (encCgen_eq ..)).trans (decodeSyllable_addcg (stopBits stop) c b d s2 s1)
  | divs d b c s1 s2 =>
    exact (congrArg decodeSyllable (encCgen_eq ..)).trans (decodeSyllable_divs (stopBits stop) c b d s2 s1)
  | imml v => exact decodeSyllable_encImm stop false v
  | immr v => exact decodeSyllable_encImm stop true v
  | sbrk n => exact decodeSyllable_sbrk n
  | syscall n => exact decodeSyllable_syscall stop n
  | ldw d s1 i | ldwD d s1 i | ldh d s1 i | ldhD d s1 i | ldhu d s1 i | ldhuD d s1 i | ldb d s1 i | ldbD d s1 i
  | ldbu d s1 i | ldbuD d s1 i =>
    exact decodeSyllable_encLoad (by rfl) stop d s1 i
  | stw s1 i s2 | sth s1 i s2 | stb s1 i s2 =>
    exact decodeSyllable_encStore (by rfl) (by rfl) stop s1 i s2
  | pft s1 i | prgadd s1 i | prgset s1 i | prginspg s1 i =>
    exact decodeSyllable_encAddress (by rfl) (by rfl) (by rfl) stop s1 i
  | pswset s2 =>
    exact (congrArg decodeSyllable (encMemory_eq ..)).trans (decodeSyllable_pswset (stopBits stop) s2)
  | pswclr s2 =>
    exact (congrArg decodeSyllable (encMemory_eq ..)).trans (decodeSyllable_pswclr (stopBits stop) s2)
  | call t => exact decodeSyllable_call stop t
  | goto t => exact decodeSyllable_goto stop t
  | br c t => exact decodeSyllable_br stop c t
  | brf c t => exact decodeSyllable_brf stop c t
  | prgins | breakOp | sync | callLink | gotoLink | rfi => cases stop <;> rfl

theorem decodeBytes_cons (big : Bool) (b0 b1 b2 b3 : Byte) (rest : List Byte) :
    decodeBytes big (b0 :: b1 :: b2 :: b3 :: rest) = (decodeSyllable (wordOfBytes big b0 b1 b2 b3), rest) := rfl

/-- Settles O1, from `decodeSyllable_encodeSyllable`; in big-endian order the bytes stand the other way round. -/
theorem decodeOfEncodeIsTheInstruction : Obligations.DecodeOfEncodeIsTheInstruction := by
  intro stop i
  refine ⟨decodeSyllable_encodeSyllable stop i, fun rest b0 b1 b2 b3 hword => ?_⟩
  have hlittle : wordOfBytes false b0 b1 b2 b3 = encodeSyllable true i := hword
  have hbig : wordOfBytes true b3 b2 b1 b0 = encodeSyllable true i := hword
  rw [decodeBytes_cons, decodeBytes_cons, hlittle, hbig, decodeSyllable_encodeSyllable]
  exact ⟨rfl, rfl⟩

/-- Settles O3: each word is decoded as it stands. -/
theorem specWordsDecode : Obligations.SpecWordsDecode := by
  unfold Obligations.SpecWordsDecode
  decide

end Sys2Proof.Machine
end

section
/-! A word that decodes to an operation is that operation's encoding (30 R204, R210, R218): a format's word is the word
of its own fields once the bits the format fixes are what it fixes them to be. -/

namespace Sys2Proof.Machine

/-! ### A word from its fields -/

theorem extractLsb'_one (w : Word) (n : Nat) : w.extractLsb' n 1 = BitVec.ofBool (w.getLsbD n) := by
  ext i hi
  obtain rfl : i = 0 := by omega
  simp [← BitVec.getLsbD_eq_getElem]

theorem stopBits_stopBit (w : Word) : stopBits (stopBit w) = w.extractLsb' 31 1 := (extractLsb'_one w 31).symm

theorem extractLsb'_eq_of_bit {w : Word} {n : Nat} {b : Bool} (h : w.getLsbD n = b) :
    w.extractLsb' n 1 = BitVec.ofBool b := by
  rw [extractLsb'_one, h]

theorem extractLsb'_eq_of_toNat {w : Word} {lo len k : Nat} (h : (w.extractLsb' lo len).toNat = k) :
    w.extractLsb' lo len = BitVec.ofNat len k := by
  rw [← h, BitVec.ofNat_toNat, BitVec.setWidth_eq]

theorem regWord_of_fields {w : Word} {b26 : Bool} (h30 : w.getLsbD 30 = false) (h28 : w.extractLsb' 28 2 = 0#2)
    (h27 : w.getLsbD 27 = false) (h26 : w.getLsbD 26 = b26) (hunused : w.extractLsb' 18 3 = 0#3) :
    regWord (stopBits (stopBit w)) (BitVec.ofBool b26) (w.extractLsb' 21 5) (fieldDest w) (fieldSrc2 w) (fieldSrc1 w)
      = w := by
  have hsplit : w.extractLsb' 31 1 ++ w.extractLsb' 30 1 ++ w.extractLsb' 28 2 ++ w.extractLsb' 27 1
      ++ w.extractLsb' 26 1 ++ w.extractLsb' 21 5 ++ w.extractLsb' 18 3 ++ w.extractLsb' 12 6 ++ w.extractLsb' 6 6
      ++ w.extractLsb' 0 6 = w := by
    simp (disch := rfl) only [BitVec.extractLsb'_append_extractLsb'_eq_extractLsb']
    exact BitVec.extractLsb'_eq_self
  rwa [← stopBits_stopBit, extractLsb'_eq_of_bit h30, h28, extractLsb'_eq_of_bit h27, extractLsb'_eq_of_bit h26,
    hunused] at hsplit

theorem immWord_of_fields {w : Word} {b26 : Bool} (h30 : w.getLsbD 30 = false) (h28 : w.extractLsb' 28 2 = 0#2)
    (h27 : w.getLsbD 27 = true) (h26 : w.getLsbD 26 = b26) :
    immWord (stopBits (stopBit w)) (BitVec.ofBool b26) (w.extractLsb' 21 5) (fieldIsrc2 w) (fieldIdest w) (fieldSrc1 w)
      = w := by
  have hsplit : w.extractLsb' 31 1 ++ w.extractLsb' 30 1 ++ w.extractLsb' 28 2 ++ w.extractLsb' 27 1
      ++ w.extractLsb' 26 1 ++ w.extractLsb' 21 5 ++ w.extractLsb' 12 9 ++ w.extractLsb' 6 6
      ++ w.extractLsb' 0 6 = w := by
    simp (disch := rfl) only [BitVec.extractLsb'_append_extractLsb'_eq_extractLsb']
    exact BitVec.extractLsb'_eq_self
  rwa [← stopBits_stopBit, extractLsb'_eq_of_bit h30, h28, extractLsb'_eq_of_bit h27, extractLsb'_eq_of_bit h26]
    at hsplit

theorem compareBranchWord_of_fields {w : Word} (h30 : w.getLsbD 30 = false) (h28 : w.extractLsb' 28 2 = 0#2)
    (h27 : w.getLsbD 27 = false) (h26 : w.getLsbD 26 = true) (h25 : w.getLsbD 25 = true)
    (hunused : w.extractLsb' 12 6 = 0#6) :
    compareBranchWord (stopBits (stopBit w)) (w.extractLsb' 21 4) (fieldBdest w) (fieldSrc2 w) (fieldSrc1 w) = w := by
  have hsplit : w.extractLsb' 31 1 ++ w.extractLsb' 30 1 ++ w.extractLsb' 28 2
      ++ (w.extractLsb' 27 1 ++ w.extractLsb' 26 1 ++ w.extractLsb' 25 1)
      ++ w.extractLsb' 21 4 ++ w.extractLsb' 18 3 ++ w.extractLsb' 12 6 ++ w.extractLsb' 6 6 ++ w.extractLsb' 0 6
      = w := by
    simp (disch := rfl) only [BitVec.extractLsb'_append_extractLsb'_eq_extractLsb']
    exact BitVec.extractLsb'_eq_self
  rwa [← stopBits_stopBit, extractLsb'_eq_of_bit h30, h28, extractLsb'_eq_of_bit h27, extractLsb'_eq_of_bit h26,
    extractLsb'_eq_of_bit h25, hunused] at hsplit

/-- Every word of the Specific format with bits 27:24 as its opcode, and below them two branch registers and three
general ones (30 R213). -/
theorem carryWord_of_fields {w : Word} (h30 : w.getLsbD 30 = false) (h28 : w.extractLsb' 28 2 = 1#2) :
    carryWord (stopBits (stopBit w)) (w.extractLsb' 24 4) (fieldScond w) (fieldBdest w) (fieldDest w) (fieldSrc2 w)
      (fieldSrc1 w) = w := by
  have hsplit : w.extractLsb' 31 1 ++ w.extractLsb' 30 1 ++ w.extractLsb' 28 2 ++ w.extractLsb' 24 4
      ++ w.extractLsb' 21 3 ++ w.extractLsb' 18 3 ++ w.extractLsb' 12 6 ++ w.extractLsb' 6 6 ++ w.extractLsb' 0 6
      = w := by
    simp (disch := rfl) only [BitVec.extractLsb'_append_extractLsb'_eq_extractLsb']
    exact BitVec.extractLsb'_eq_self
  rwa [← stopBits_stopBit, extractLsb'_eq_of_bit h30, h28] at hsplit

/-- The register form of slct and slctf is the word of addcg and divs with no branch destination. -/
theorem selectRegWord_eq_carryWord (stop : Bool) (opc : BitVec 3) (c : BrNum) (d s2 s1 : RegNum) :
    selectRegWord (stopBits stop) opc c d s2 s1 = carryWord (stopBits stop) (0#1 ++ opc) c 0#3 d s2 s1 := by
  have hformat : ∀ (stop : Bool) (opc : BitVec 3), (stopBits stop ++ 0#1 ++ 0b01#2 ++ 0#1 ++ opc : BitVec 8)
      = stopBits stop ++ 0#1 ++ 0b01#2 ++ (0#1 ++ opc) := by decide
  exact congrArg (fun x : BitVec 8 => (x ++ c ++ 0#3 ++ d ++ s2 ++ s1 : Word)) (hformat stop opc)

theorem selectImmWord_of_fields {w : Word} {opc : BitVec 3} (h30 : w.getLsbD 30 = false)
    (h28 : w.extractLsb' 28 2 = 1#2) (h24 : w.extractLsb' 24 4 = 1#1 ++ opc) :
    selectImmWord (stopBits (stopBit w)) opc (fieldScond w) (fieldIsrc2 w) (fieldIdest w) (fieldSrc1 w) = w := by
  obtain ⟨hone, hopc⟩ := extractLsb'_parts (m := 1) (n := 3) h24
  have hsplit : w.extractLsb' 31 1 ++ w.extractLsb' 30 1 ++ w.extractLsb' 28 2 ++ w.extractLsb' (24 + 3) 1
      ++ w.extractLsb' 24 3 ++ w.extractLsb' 21 3 ++ w.extractLsb' 12 9 ++ w.extractLsb' 6 6 ++ w.extractLsb' 0 6
      = w := by
    simp (disch := rfl) only [BitVec.extractLsb'_append_extractLsb'_eq_extractLsb']
    exact BitVec.extractLsb'_eq_self
  rwa [← stopBits_stopBit, extractLsb'_eq_of_bit h30, h28, hone, hopc] at hsplit

theorem encImm_of_fields {w : Word} {right : Bool} (h30 : w.getLsbD 30 = false) (h28 : w.extractLsb' 28 2 = 1#2)
    (h24 : w.extractLsb' 24 4 = 5#4) (h23 : w.getLsbD 23 = right) :
    encImm (stopBit w) (0b0101#4 ++ BitVec.ofBool right) (fieldImm w) = w := by
  have hsplit : w.extractLsb' 31 1 ++ w.extractLsb' 30 1 ++ w.extractLsb' 28 2
      ++ (w.extractLsb' 24 4 ++ w.extractLsb' 23 1) ++ w.extractLsb' 0 23 = w := by
    simp (disch := rfl) only [BitVec.extractLsb'_append_extractLsb'_eq_extractLsb']
    exact BitVec.extractLsb'_eq_self
  rw [encImm_eq]
  rwa [← stopBits_stopBit, extractLsb'_eq_of_bit h30, h28, h24, extractLsb'_eq_of_bit h23] at hsplit

theorem encSystem_of_fields {w : Word} (h30 : w.getLsbD 30 = false) (h28 : w.extractLsb' 28 2 = 1#2)
    (h24 : w.extractLsb' 24 4 = 15#4) :
    encSystem (stopBit w) (0b1111#4 ++ w.extractLsb' 21 3) (fieldSbrkNum w) = w := by
  have hsplit : w.extractLsb' 31 1 ++ w.extractLsb' 30 1 ++ w.extractLsb' 28 2 ++ w.extractLsb' 24 4
      ++ w.extractLsb' 21 3 ++ w.extractLsb' 0 21 = w := by
    simp (disch := rfl) only [BitVec.extractLsb'_append_extractLsb'_eq_extractLsb']
    exact BitVec.extractLsb'_eq_self
  rw [encSystem_eq]
  rwa [← stopBits_stopBit, extractLsb'_eq_of_bit h30, h28, h24] at hsplit

theorem encMemory_of_fields {w : Word} (h30 : w.getLsbD 30 = false) (h28 : w.extractLsb' 28 2 = 2#2)
    (hunused : w.extractLsb' 21 2 = 0#2) :
    encMemory (stopBit w) (w.extractLsb' 23 5) (fieldIsrc2 w) (w.extractLsb' 6 6) (fieldSrc1 w) = w := by
  have hsplit : w.extractLsb' 31 1 ++ w.extractLsb' 30 1 ++ w.extractLsb' 28 2 ++ w.extractLsb' 23 5
      ++ w.extractLsb' 21 2 ++ w.extractLsb' 12 9 ++ w.extractLsb' 6 6 ++ w.extractLsb' 0 6 = w := by
    simp (disch := rfl) only [BitVec.extractLsb'_append_extractLsb'_eq_extractLsb']
    exact BitVec.extractLsb'_eq_self
  rw [encMemory_eq]
  rwa [← stopBits_stopBit, extractLsb'_eq_of_bit h30, h28, hunused] at hsplit

theorem encCall_of_fields {w : Word} {opc : BitVec 3} {lnk : BitVec 1} (h30 : w.getLsbD 30 = false)
    (h28 : w.extractLsb' 28 2 = 3#2) (h27 : w.getLsbD 27 = false) (hopc : w.extractLsb' 23 4 = opc ++ lnk) :
    encCall (stopBit w) opc lnk (fieldBtarg w) = w := by
  have hsplit : w.extractLsb' 31 1 ++ w.extractLsb' 30 1 ++ w.extractLsb' 28 2 ++ w.extractLsb' 27 1
      ++ w.extractLsb' 23 4 ++ w.extractLsb' 0 23 = w := by
    simp (disch := rfl) only [BitVec.extractLsb'_append_extractLsb'_eq_extractLsb']
    exact BitVec.extractLsb'_eq_self
  rw [encCall_eq]
  rwa [← stopBits_stopBit, extractLsb'_eq_of_bit h30, h28, extractLsb'_eq_of_bit h27, hopc] at hsplit

theorem encBranch_of_fields {w : Word} {b26 : Bool} (h30 : w.getLsbD 30 = false) (h28 : w.extractLsb' 28 2 = 3#2)
    (h27 : w.getLsbD 27 = true) (h26 : w.getLsbD 26 = b26) :
    encBranch (stopBit w) (BitVec.ofBool b26) (fieldBcond w) (fieldBtarg w) = w := by
  have hsplit : w.extractLsb' 31 1 ++ w.extractLsb' 30 1 ++ w.extractLsb' 28 2 ++ w.extractLsb' 27 1
      ++ w.extractLsb' 26 1 ++ w.extractLsb' 23 3 ++ w.extractLsb' 0 23 = w := by
    simp (disch := rfl) only [BitVec.extractLsb'_append_extractLsb'_eq_extractLsb']
    exact BitVec.extractLsb'_eq_self
  rw [encBranch_eq]
  rwa [← stopBits_stopBit, extractLsb'_eq_of_bit h30, h28, extractLsb'_eq_of_bit h27, extractLsb'_eq_of_bit h26]
    at hsplit

end Sys2Proof.Machine
end

section
/-! The opcode tables and the decoder read backwards: an operation that a table answers is encoded with the opcode it
was looked up by, and so a word that decodes to it is its encoding (30 R211 to R215). -/

namespace Sys2Proof.Machine

/-! ### The tables -/

theorem encodeSyllable_int3ROp {n : Nat} {f : RegNum → RegNum → RegNum → Instr} (h : int3ROp n = some f) (stop : Bool)
    (d s1 s2 : RegNum) : encodeSyllable stop (f d s1 s2) = encInt3R stop (BitVec.ofNat 5 n) d s1 s2 := by
  unfold int3ROp at h
  split at h <;> cases h <;> rfl

theorem encodeSyllable_int3IOp {n : Nat} {f : RegNum → RegNum → BitVec 9 → Instr} (h : int3IOp n = some f)
    (stop : Bool) (d s1 : RegNum) (i : BitVec 9) :
    encodeSyllable stop (f d s1 i) = encInt3I stop (BitVec.ofNat 5 n) d s1 i := by
  unfold int3IOp at h
  split at h <;> cases h <;> rfl

theorem encodeSyllable_monadicOp {n : Nat} {f : RegNum → RegNum → Instr} (h : monadicOp n = some f) (stop : Bool)
    (d s1 : RegNum) : encodeSyllable stop (f d s1) = encInt3I stop 0b01110#5 d s1 (BitVec.ofNat 9 n) := by
  unfold monadicOp at h
  split at h <;> cases h <;> rfl

theorem encodeSyllable_cmpRROp {n : Nat} {f : RegNum → RegNum → RegNum → Instr} (h : cmpRROp n = some f) (stop : Bool)
    (d s1 s2 : RegNum) : encodeSyllable stop (f d s1 s2) = encCmpRR stop (BitVec.ofNat 4 n) d s1 s2 := by
  unfold cmpRROp at h
  split at h <;> cases h <;> rfl

theorem encodeSyllable_cmpBROp {n : Nat} {f : BrNum → RegNum → RegNum → Instr} (h : cmpBROp n = some f) (stop : Bool)
    (b : BrNum) (s1 s2 : RegNum) : encodeSyllable stop (f b s1 s2) = encCmpBR stop (BitVec.ofNat 4 n) b s1 s2 := by
  unfold cmpBROp at h
  split at h <;> cases h <;> rfl

theorem encodeSyllable_cmpRIOp {n : Nat} {f : RegNum → RegNum → BitVec 9 → Instr} (h : cmpRIOp n = some f)
    (stop : Bool) (d s1 : RegNum) (i : BitVec 9) :
    encodeSyllable stop (f d s1 i) = encCmpRI stop (BitVec.ofNat 4 n) d s1 i := by
  unfold cmpRIOp at h
  split at h <;> cases h <;> rfl

theorem encodeSyllable_cmpBIOp {n : Nat} {f : BrNum → RegNum → BitVec 9 → Instr} (h : cmpBIOp n = some f)
    (stop : Bool) (b : BrNum) (s1 : RegNum) (i : BitVec 9) :
    encodeSyllable stop (f b s1 i) = encCmpBI stop (BitVec.ofNat 4 n) b s1 i := by
  unfold cmpBIOp at h
  split at h <;> cases h <;> rfl

theorem encodeSyllable_mul64ROp {n : Nat} {f : RegNum → RegNum → RegNum → Instr} (h : mul64ROp n = some f)
    (stop : Bool) (d s1 s2 : RegNum) : encodeSyllable stop (f d s1 s2) = encMul64R stop (BitVec.ofNat 5 n) d s1 s2 := by
  unfold mul64ROp at h
  split at h <;> cases h <;> rfl

theorem encodeSyllable_mul64IOp {n : Nat} {f : RegNum → RegNum → BitVec 9 → Instr} (h : mul64IOp n = some f)
    (stop : Bool) (d s1 : RegNum) (i : BitVec 9) :
    encodeSyllable stop (f d s1 i) = encMul64I stop (BitVec.ofNat 5 n) d s1 i := by
  unfold mul64IOp at h
  split at h <;> cases h <;> rfl

theorem encodeSyllable_loadOp {n : Nat} {f : RegNum → RegNum → BitVec 9 → Instr} (h : loadOp n = some f) (stop : Bool)
    (d s1 : RegNum) (i : BitVec 9) : encodeSyllable stop (f d s1 i) = encMemory stop (BitVec.ofNat 5 n) i d s1 := by
  unfold loadOp at h
  split at h <;> cases h <;> rfl

theorem encodeSyllable_storeOp {n : Nat} {f : RegNum → BitVec 9 → RegNum → Instr} (h : storeOp n = some f)
    (stop : Bool) (s1 : RegNum) (i : BitVec 9) (s2 : RegNum) :
    encodeSyllable stop (f s1 i s2) = encMemory stop (BitVec.ofNat 5 n) i s2 s1 := by
  unfold storeOp at h
  split at h <;> cases h <;> rfl

theorem encodeSyllable_addressOp {n : Nat} {f : RegNum → BitVec 9 → Instr} (h : addressOp n = some f) (stop : Bool)
    (s1 : RegNum) (i : BitVec 9) : encodeSyllable stop (f s1 i) = encMemory stop (BitVec.ofNat 5 n) i 0#6 s1 := by
  unfold addressOp at h
  split at h <;> cases h <;> rfl

@[simp] theorem ofNat_toNat_self {n : Nat} (x : BitVec n) : BitVec.ofNat n x.toNat = x := by
  rw [BitVec.ofNat_toNat, BitVec.setWidth_eq]

/-! ### The decoder -/

/-- `whenZero` accepts exactly the operation it is given, where the unused field is zero (30 R204). -/
theorem whenZero_eq_ok {w : Word} {lo len : Nat} {i j : Instr} :
    whenZero w lo len i = .ok j ↔ w.extractLsb' lo len = 0#len ∧ i = j := by
  unfold whenZero
  split <;> simp_all

theorem encode_of_decodeInt3R {w : Word} {i : Instr} (h30 : w.getLsbD 30 = false) (h28 : w.extractLsb' 28 2 = 0#2)
    (h27 : w.getLsbD 27 = false) (h26 : w.getLsbD 26 = false) (h : decodeInt3R w = .ok i) :
    encodeSyllable (stopBit w) i = w := by
  unfold decodeInt3R at h
  split at h
  next f hop =>
    obtain ⟨hunused, rfl⟩ := whenZero_eq_ok.mp h
    rw [encodeSyllable_int3ROp hop, ofNat_toNat_self, encInt3R_eq]
    exact regWord_of_fields (b26 := false) h30 h28 h27 h26 hunused
  next => cases h

theorem encode_of_decodeInt3I {w : Word} {i : Instr} (h30 : w.getLsbD 30 = false) (h28 : w.extractLsb' 28 2 = 0#2)
    (h27 : w.getLsbD 27 = true) (h26 : w.getLsbD 26 = false) (h : decodeInt3I w = .ok i) :
    encodeSyllable (stopBit w) i = w := by
  have hword := immWord_of_fields (b26 := false) h30 h28 h27 h26
  unfold decodeInt3I at h
  split at h
  next hopc =>
    split at h
    next f hop =>
      cases h
      rw [encodeSyllable_monadicOp hop, ofNat_toNat_self, encInt3I_eq, ← hopc]
      exact hword
    next => cases h
  next =>
    split at h
    next f hop =>
      cases h
      rw [encodeSyllable_int3IOp hop, ofNat_toNat_self, encInt3I_eq]
      exact hword
    next => cases h

/-- The opcode of a compare word is bit 25 and the four bits its operation was looked up by. -/
theorem compareOpcode_join {w : Word} {b25 : Bool} (h25 : w.getLsbD 25 = b25) :
    w.extractLsb' 21 5 = BitVec.ofBool b25 ++ w.extractLsb' 21 4 := by
  rw [← extractLsb'_eq_of_bit h25]
  exact (extractLsb'_join w 21 1 4).symm

theorem encode_of_decodeCmpR {w : Word} {i : Instr} (h30 : w.getLsbD 30 = false) (h28 : w.extractLsb' 28 2 = 0#2)
    (h27 : w.getLsbD 27 = false) (h26 : w.getLsbD 26 = true) (h : decodeCmpR w = .ok i) :
    encodeSyllable (stopBit w) i = w := by
  unfold decodeCmpR at h
  split at h
  next f hop =>
    obtain ⟨hunused, rfl⟩ := whenZero_eq_ok.mp h
    rw [encodeSyllable_mul64ROp hop, ofNat_toNat_self, encMul64R_eq]
    exact regWord_of_fields (b26 := true) h30 h28 h27 h26 hunused
  next =>
    split at h
    next h25 =>
      split at h
      next f hop =>
        obtain ⟨hunused, rfl⟩ := whenZero_eq_ok.mp h
        rw [encodeSyllable_cmpBROp hop, ofNat_toNat_self, encCmpBR_eq]
        exact compareBranchWord_of_fields h30 h28 h27 h26 h25 hunused
      next => cases h
    next h25 =>
      split at h
      next f hop =>
        obtain ⟨hunused, rfl⟩ := whenZero_eq_ok.mp h
        have hword := regWord_of_fields (b26 := true) h30 h28 h27 h26 hunused
        rw [compareOpcode_join (Bool.eq_false_of_not_eq_true h25)] at hword
        rw [encodeSyllable_cmpRROp hop, ofNat_toNat_self, encCmpRR_eq]
        exact hword
      next => cases h

theorem encode_of_decodeCmpI {w : Word} {i : Instr} (h30 : w.getLsbD 30 = false) (h28 : w.extractLsb' 28 2 = 0#2)
    (h27 : w.getLsbD 27 = true) (h26 : w.getLsbD 26 = true) (h : decodeCmpI w = .ok i) :
    encodeSyllable (stopBit w) i = w := by
  have hword := immWord_of_fields (b26 := true) h30 h28 h27 h26
  unfold decodeCmpI at h
  split at h
  next f hop =>
    cases h
    rw [encodeSyllable_mul64IOp hop, ofNat_toNat_self, encMul64I_eq]
    exact hword
  next =>
    split at h
    next h25 =>
      split at h
      next f hop =>
        obtain ⟨hunused, rfl⟩ := whenZero_eq_ok.mp h
        have hdest : fieldIdest w = 0#3 ++ fieldIbdest w :=
          (extractLsb'_join w 6 3 3).symm.trans (congrArg (· ++ fieldIbdest w) hunused)
        rw [compareOpcode_join h25, hdest] at hword
        rw [encodeSyllable_cmpBIOp hop, ofNat_toNat_self, encCmpBI_eq]
        exact hword
      next => cases h
    next h25 =>
      split at h
      next f hop =>
        cases h
        rw [compareOpcode_join (Bool.eq_false_of_not_eq_true h25)] at hword
        rw [encodeSyllable_cmpRIOp hop, ofNat_toNat_self, encCmpRI_eq]
        exact hword
      next => cases h

theorem encode_of_decodeInteger {w : Word} {i : Instr} (h30 : w.getLsbD 30 = false) (h28 : w.extractLsb' 28 2 = 0#2)
    (h : decodeInteger w = .ok i) : encodeSyllable (stopBit w) i = w := by
  unfold decodeInteger at h
  cases h26 : w.getLsbD 26 <;> cases h27 : w.getLsbD 27 <;> rw [h26, h27] at h
  case false.false => exact encode_of_decodeInt3R h30 h28 h27 h26 h
  case false.true => exact encode_of_decodeInt3I h30 h28 h27 h26 h
  case true.false => exact encode_of_decodeCmpR h30 h28 h27 h26 h
  case true.true => exact encode_of_decodeCmpI h30 h28 h27 h26 h

theorem encode_of_decodeSystem {w : Word} {i : Instr} (h30 : w.getLsbD 30 = false) (h28 : w.extractLsb' 28 2 = 1#2)
    (h24 : w.extractLsb' 24 4 = 15#4) (h : decodeSystem w = .ok i) : encodeSyllable (stopBit w) i = w := by
  have hword := encSystem_of_fields h30 h28 h24
  unfold decodeSystem at h
  split at h
  next hopc =>
    obtain ⟨hunused, rfl⟩ := whenZero_eq_ok.mp h
    rw [extractLsb'_eq_of_toNat hopc, fieldSbrkNum, hunused] at hword
    exact hword
  next hopc =>
    split at h
    next hstop =>
      cases h
      rw [extractLsb'_eq_of_toNat hopc, hstop] at hword
      exact hword
    next => cases h
  next hopc =>
    cases h
    rw [extractLsb'_eq_of_toNat hopc] at hword
    exact hword
  next hopc =>
    obtain ⟨hunused, rfl⟩ := whenZero_eq_ok.mp h
    rw [extractLsb'_eq_of_toNat hopc, fieldSbrkNum, hunused] at hword
    exact hword
  next => cases h

theorem encode_of_decodeSpecific {w : Word} {i : Instr} (h30 : w.getLsbD 30 = false) (h28 : w.extractLsb' 28 2 = 1#2)
    (h : decodeSpecific w = .ok i) : encodeSyllable (stopBit w) i = w := by
  have hword := carryWord_of_fields h30 h28
  unfold decodeSpecific at h
  split at h
  case h_1 hopc | h_2 hopc =>
    obtain ⟨hunused, rfl⟩ := whenZero_eq_ok.mp h
    rw [extractLsb'_eq_of_toNat hopc, fieldBdest, hunused] at hword
    exact (encSelectR_eq ..).trans ((selectRegWord_eq_carryWord ..).trans hword)
  case h_3 hopc | h_4 hopc =>
    cases h
    rw [extractLsb'_eq_of_toNat hopc] at hword
    exact (encCgen_eq ..).trans hword
  case h_5 hopc =>
    split at h
    next h23 =>
      cases h
      exact encImm_of_fields (right := true) h30 h28 (extractLsb'_eq_of_toNat hopc) h23
    next h23 =>
      cases h
      exact encImm_of_fields (right := false) h30 h28 (extractLsb'_eq_of_toNat hopc) (Bool.eq_false_of_not_eq_true h23)
  case h_6 hopc =>
    cases h
    exact (encSelectI_eq ..).trans (selectImmWord_of_fields (opc := 0b000#3) h30 h28 (extractLsb'_eq_of_toNat hopc))
  case h_7 hopc =>
    cases h
    exact (encSelectI_eq ..).trans (selectImmWord_of_fields (opc := 0b001#3) h30 h28 (extractLsb'_eq_of_toNat hopc))
  case h_8 hopc => exact encode_of_decodeSystem h30 h28 (extractLsb'_eq_of_toNat hopc) h
  case h_9 => cases h

/-- `decodePsw` accepts its operation where the bits around SRC2 are zero (30 R214). -/
theorem decodePsw_eq_ok {w : Word} {i j : Instr} (h : decodePsw w i = .ok j) :
    w.extractLsb' 21 2 = 0#2 ∧ fieldIsrc2 w = 0#9 ∧ fieldSrc1 w = 0#6 ∧ i = j := by
  unfold decodePsw at h
  split at h
  next hzero =>
    cases h
    obtain ⟨hmiddle, hlow⟩ := hzero
    obtain ⟨hunused, hisrc2⟩ := extractLsb'_parts (m := 2) (n := 9) (x := 0#2) (y := 0#9) hmiddle
    exact ⟨hunused, hisrc2, hlow, rfl⟩
  next => cases h

theorem decodeAddress_eq_ok {w : Word} {i j : Instr} :
    decodeAddress w i = .ok j ↔ (w.extractLsb' 21 2 = 0#2 ∧ w.extractLsb' 6 6 = 0#6) ∧ i = j := by
  unfold decodeAddress
  split <;> simp_all

theorem encode_of_decodeMemory {w : Word} {i : Instr} (h30 : w.getLsbD 30 = false) (h28 : w.extractLsb' 28 2 = 2#2)
    (h : decodeMemory w = .ok i) : encodeSyllable (stopBit w) i = w := by
  have hword := encMemory_of_fields h30 h28
  simp only [decodeMemory] at h
  split at h
  next f hop =>
    obtain ⟨hunused, rfl⟩ := whenZero_eq_ok.mp h
    rw [encodeSyllable_loadOp hop, ofNat_toNat_self]
    exact hword hunused
  next =>
  split at h
  next f hop =>
    obtain ⟨hunused, rfl⟩ := whenZero_eq_ok.mp h
    rw [encodeSyllable_storeOp hop, ofNat_toNat_self]
    exact hword hunused
  next =>
  split at h
  next f hop =>
    obtain ⟨⟨hunused, hzero⟩, rfl⟩ := decodeAddress_eq_ok.mp h
    rw [encodeSyllable_addressOp hop, ofNat_toNat_self, ← hzero]
    exact hword hunused
  next =>
  split at h
  case h_1 hopc =>
    obtain ⟨hzero, rfl⟩ := whenZero_eq_ok.mp h
    obtain ⟨hunused, hlow⟩ := extractLsb'_parts (m := 2) (n := 21) (x := 0#2) (y := 0#21) hzero
    obtain ⟨hisrc2, hlow⟩ := extractLsb'_parts (m := 9) (n := 12) (x := 0#9) (y := 0#12) hlow
    obtain ⟨hr, hsrc1⟩ := extractLsb'_parts (m := 6) (n := 6) (x := 0#6) (y := 0#6) hlow
    have hword := hword hunused
    rw [extractLsb'_eq_of_toNat hopc, fieldIsrc2, hisrc2, hr, fieldSrc1, hsrc1] at hword
    exact hword
  case h_2 hopc | h_3 hopc =>
    obtain ⟨hunused, hisrc2, hsrc1, rfl⟩ := decodePsw_eq_ok h
    have hword := hword hunused
    rw [extractLsb'_eq_of_toNat hopc, hisrc2, hsrc1] at hword
    exact hword
  case h_4 => cases h

theorem encode_of_decodeControl {w : Word} {i : Instr} (h30 : w.getLsbD 30 = false) (h28 : w.extractLsb' 28 2 = 3#2)
    (h : decodeControl w = .ok i) : encodeSyllable (stopBit w) i = w := by
  unfold decodeControl at h
  split at h
  next h27 =>
    split at h
    next h26 => cases h; exact encBranch_of_fields (b26 := true) h30 h28 h27 h26
    next h26 => cases h; exact encBranch_of_fields (b26 := false) h30 h28 h27 (Bool.eq_false_of_not_eq_true h26)
  next h27 =>
    have h27 := Bool.eq_false_of_not_eq_true h27
    split at h
    case h_1 hopc =>
      cases h
      exact encCall_of_fields (opc := 0b000#3) (lnk := 0#1) h30 h28 h27 (extractLsb'_eq_of_toNat hopc)
    case h_3 hopc =>
      cases h
      exact encCall_of_fields (opc := 0b001#3) (lnk := 0#1) h30 h28 h27 (extractLsb'_eq_of_toNat hopc)
    case h_2 hopc =>
      obtain ⟨hzero, rfl⟩ := whenZero_eq_ok.mp h
      have hword := encCall_of_fields (opc := 0b000#3) (lnk := 1#1) h30 h28 h27 (extractLsb'_eq_of_toNat hopc)
      rwa [fieldBtarg, hzero] at hword
    case h_4 hopc =>
      obtain ⟨hzero, rfl⟩ := whenZero_eq_ok.mp h
      have hword := encCall_of_fields (opc := 0b001#3) (lnk := 1#1) h30 h28 h27 (extractLsb'_eq_of_toNat hopc)
      rwa [fieldBtarg, hzero] at hword
    case h_5 hopc =>
      obtain ⟨hzero, rfl⟩ := whenZero_eq_ok.mp h
      have hword := encCall_of_fields (opc := 0b010#3) (lnk := 0#1) h30 h28 h27 (extractLsb'_eq_of_toNat hopc)
      rwa [fieldBtarg, hzero] at hword
    case h_6 => cases h

/-- A word that decodes is the encoding of what it decodes to, with its own stop bit: by its format (30 R210). -/
theorem encodeSyllable_of_decodeSyllable {w : Word} {i : Instr} (h : decodeSyllable w = .ok i) :
    encodeSyllable (stopBit w) i = w := by
  unfold decodeSyllable at h
  split at h
  next => cases h
  next h30 =>
    have h30 := Bool.eq_false_of_not_eq_true h30
    have hlt := (w.extractLsb' 28 2).isLt
    split at h
    case h_1 hfmt => exact encode_of_decodeInteger h30 (extractLsb'_eq_of_toNat hfmt) h
    case h_2 hfmt => exact encode_of_decodeSpecific h30 (extractLsb'_eq_of_toNat hfmt) h
    case h_3 hfmt => exact encode_of_decodeMemory h30 (extractLsb'_eq_of_toNat hfmt) h
    case h_4 h0 h1 h2 =>
      have hfmt : (w.extractLsb' 28 2).toNat = 3 := by
        generalize (w.extractLsb' 28 2).toNat = n at *
        interval_cases n <;> simp_all
      exact encode_of_decodeControl h30 (extractLsb'_eq_of_toNat hfmt) h

/-- Settles O2. -/
theorem decodedWordIsTheEncoding : Obligations.DecodedWordIsTheEncoding :=
  fun _ _ => encodeSyllable_of_decodeSyllable

end Sys2Proof.Machine
end

section
/-! What an operation may do to the state: the assignments its effect may hold (00 R14), for every operation. -/

namespace Sys2Proof.Machine

/-- What an assignment by operation `i`, in a bundle of `words` syllables, requires: a write of the PSW is pswset's or
pswclr's through the filter, a control register is one the mode may access, rfi returns in supervisor mode only, and the
idle macro enters idle mode with counting off. -/
def State.Permits (s : State) (words : Nat) (i : Instr) : Write → Prop
  | .psw v => s.userMode = false
      ∧ ((∃ r, i = .pswset r ∧ v = pswAssign s.psw (s.psw ||| s.gpr r))
        ∨ ∃ r, i = .pswclr r ∧ v = pswAssign s.psw (s.psw &&& ~~~(s.gpr r)))
  | .creg r _ => s.access r ≠ .na
  | .lfsrClock => s.access .tlbReplace ≠ .na
  | .sdiTake p => s.access (.sdiData p) ≠ .na
  | .returnFromException => s.userMode = false ∧ i = .rfi
  | .enterIdle => i = .goto 0#23 ∧ words = 1 ∧ s.pm.enb = false
  | .gpr _ _ | .br _ _ | .pc _ | .mem _ _ _ | .periph _ _ | .busError => True

/-- An effect that operation `i` may have: permitted assignments, an SDI port to wait for that the mode may access, and
the return of rfi as its only assignment. -/
structure State.Grants (s : State) (words : Nat) (i : Instr) (eff : Effect) : Prop where
  writes : ∀ w ∈ eff.writes, s.Permits words i w
  stall : ∀ p, eff.stall = some p → s.access (.sdiData p) ≠ .na
  returns : .returnFromException ∈ eff.writes → eff.writes = [.returnFromException]

/-- An assignment that every operation may make. -/
def Write.plain : Write → Bool
  | .gpr _ _ | .br _ _ | .pc _ | .mem _ _ _ | .periph _ _ | .busError => true
  | _ => false

theorem State.permits_of_plain {s : State} {words : Nat} {i : Instr} {w : Write} (h : w.plain = true) :
    s.Permits words i w := by
  cases w <;> trivial

/-- An effect of plain assignments that waits for nothing. -/
theorem State.grants_of_plain {s : State} {words : Nat} {i : Instr} {eff : Effect} (hs : eff.stall = none)
    (hw : eff.writes.all Write.plain = true) : s.Grants words i eff where
  writes w h := State.permits_of_plain (List.all_eq_true.mp hw w h)
  stall p h := by rw [hs] at h; cases h
  returns h := by cases List.all_eq_true.mp hw _ h

theorem State.grants_lsuRaise (s : State) (words : Nat) (i : Instr) (r : Raised) : s.Grants words i (lsuRaise r) :=
  State.grants_of_plain rfl rfl

theorem State.memLoadWrites_plain (s : State) (w : Width) (f : Word → Word) (d : RegNum) (pa : Word) :
    (s.memLoadWrites w f d pa).all Write.plain = true := by
  unfold State.memLoadWrites
  split <;> rfl

theorem State.memStoreWrites_plain (s : State) (w : Width) (pa v : Word) :
    (s.memStoreWrites w pa v).all Write.plain = true := by
  unfold State.memStoreWrites
  repeat' split
  all_goals rfl

theorem State.grants_memLoad (s : State) (words : Nat) (i : Instr) (w : Width) (f : Word → Word) (d : RegNum)
    (pa : Word) : s.Grants words i (lsuEffect (s.memLoadWrites w f d pa)) :=
  State.grants_of_plain rfl (s.memLoadWrites_plain w f d pa)

theorem State.grants_memStore (s : State) (words : Nat) (i : Instr) (w : Width) (pa v : Word) :
    s.Grants words i (lsuEffect (s.memStoreWrites w pa v)) :=
  State.grants_of_plain rfl (s.memStoreWrites_plain w pa v)

/-- A control register whose check passes is one the mode may access (20 R128, R129). -/
theorem State.access_of_cregCheck {s : State} {a : Word} {r : CReg} (hr : cregAt a = some r)
    (h : s.cregCheck a = none) : s.access r ≠ .na := by
  intro hna
  simp [State.cregCheck, hr, hna] at h

theorem State.grants_cregLoad {s : State} {r : CReg} (h : s.access r ≠ .na) (words : Nat) (i : Instr) (d : RegNum) :
    s.Grants words i (s.cregLoad r d) where
  writes w hw := by
    rcases List.mem_cons.mp hw with rfl | hw
    · trivial
    · unfold State.loadSideEffects at hw
      split at hw
      · rw [List.mem_singleton.mp hw]; exact h
      · split at hw
        · rw [List.mem_singleton.mp hw]; exact h
        · cases hw
      · cases hw
  stall p hp := by
    replace hp : s.loadStall r = some p := hp
    unfold State.loadStall at hp
    split at hp
    · split at hp
      · cases hp; exact h
      · cases hp
    · cases hp
  returns hw := by
    rcases List.mem_cons.mp hw with hw | hw
    · cases hw
    · unfold State.loadSideEffects at hw
      split at hw
      · cases List.mem_singleton.mp hw
      · split at hw
        · cases List.mem_singleton.mp hw
        · cases hw
      · cases hw

theorem State.grants_loadWord (s : State) (words : Nat) (i : Instr) (d : RegNum) (ea : Word) :
    s.Grants words i (s.loadWordEffect d ea) := by
  unfold State.loadWordEffect
  split
  · exact s.grants_lsuRaise words i _
  split
  · cases hc : s.cregCheck ea with
    | some r => exact s.grants_lsuRaise words i _
    | none =>
      cases hr : cregAt ea with
      | none => exact s.grants_lsuRaise words i _
      | some r => exact State.grants_cregLoad (State.access_of_cregCheck hr hc) words i d
  · cases s.readCheck .word ea with
    | some r => exact s.grants_lsuRaise words i _
    | none => exact s.grants_memLoad words i _ _ d _

theorem State.grants_loadPart (s : State) (words : Nat) (i : Instr) (w : Width) (f : Word → Word) (d : RegNum)
    (ea : Word) : s.Grants words i (s.loadPartEffect w f d ea) := by
  unfold State.loadPartEffect
  split
  · exact s.grants_lsuRaise words i _
  split
  · exact s.grants_lsuRaise words i _
  · cases s.readCheck w ea with
    | some r => exact s.grants_lsuRaise words i _
    | none => exact s.grants_memLoad words i _ _ d _

theorem State.grants_loadDismissible (s : State) (words : Nat) (i : Instr) (w : Width) (f : Word → Word) (d : RegNum)
    (ea : Word) : s.Grants words i (s.loadDismissibleEffect w f d ea) := by
  unfold State.loadDismissibleEffect
  split
  · exact s.grants_lsuRaise words i _
  split
  · exact State.grants_of_plain rfl rfl
  · cases s.disReadCheck w ea with
    | some r => exact s.grants_lsuRaise words i _
    | none =>
      dsimp only
      split
      · exact s.grants_memLoad words i _ _ d _
      · exact State.grants_of_plain rfl rfl

theorem State.grants_storeWord (s : State) (words : Nat) (i : Instr) (ea v : Word) :
    s.Grants words i (s.storeWordEffect ea v) := by
  unfold State.storeWordEffect
  split
  · exact s.grants_lsuRaise words i _
  split
  · cases hc : s.cregCheck ea with
    | some r => exact s.grants_lsuRaise words i _
    | none =>
      cases hr : cregAt ea with
      | none => exact s.grants_lsuRaise words i _
      | some r =>
        have haccess := State.access_of_cregCheck hr hc
        refine ⟨fun w hw => ?_, fun p hp => ?_, fun hw => ?_⟩
        · rw [List.mem_singleton.mp hw]; exact haccess
        · replace hp : s.storeStall r = some p := hp
          unfold State.storeStall at hp
          split at hp
          · split at hp
            · cases hp; exact haccess
            · cases hp
          · cases hp
        · cases List.mem_singleton.mp hw
  · cases s.writeCheck .word ea with
    | some r => exact s.grants_lsuRaise words i _
    | none => exact s.grants_memStore words i _ _ _

theorem State.grants_storePart (s : State) (words : Nat) (i : Instr) (w : Width) (ea v : Word) :
    s.Grants words i (s.storePartEffect w ea v) := by
  unfold State.storePartEffect
  split
  · exact s.grants_lsuRaise words i _
  split
  · exact s.grants_lsuRaise words i _
  · cases s.writeCheck w ea with
    | some r => exact s.grants_lsuRaise words i _
    | none => exact s.grants_memStore words i _ _ _

theorem State.grants_purge (s : State) (words : Nat) (i : Instr) (ea : Word) :
    s.Grants words i (s.purgeEffect ea) := by
  unfold State.purgeEffect
  cases s.purgeCheck ea with
  | some r => exact s.grants_lsuRaise words i _
  | none => exact State.grants_of_plain rfl rfl

/-- A privileged operation assigns nothing in user mode. -/
theorem State.grants_privileged {s : State} {words : Nat} {i : Instr} {e : Effect}
    (h : s.userMode = false → s.Grants words i e) : s.Grants words i (s.privileged e) := by
  unfold State.privileged
  split
  · exact State.grants_of_plain rfl rfl
  · rename_i hu
    exact h (Bool.eq_false_of_not_eq_true hu)

theorem State.grants_branch (s : State) (words : Nat) (i : Instr) (taken : Bool) (o : BitVec 23) :
    s.Grants words i (s.branchEffect taken o) := by
  cases taken <;> exact State.grants_of_plain rfl rfl

theorem State.grants_goto (s : State) (o : BitVec 23) :
    s.Grants s.bundle.words (.goto o) (jumpEffect (s.branchTarget o)
      (if s.entersIdle o then [.enterIdle] else [])) := by
  cases h : s.entersIdle o with
  | false => exact State.grants_of_plain rfl rfl
  | true =>
    simp only [State.entersIdle, Bool.and_eq_true, beq_iff_eq, Bool.not_eq_true'] at h
    obtain ⟨⟨⟨rfl, hwords⟩, henb⟩, -⟩ := h
    refine ⟨fun w hw => ?_, fun p hp => ?_, fun hw => ?_⟩
    · simp only [jumpEffect, if_true, List.mem_cons, List.not_mem_nil, or_false] at hw
      obtain rfl | rfl := hw
      · trivial
      · exact ⟨rfl, hwords, henb⟩
    · cases hp
    · simp [jumpEffect] at hw

theorem State.grants_psw {s : State} {words : Nat} {i : Instr} {v : Word} (h : s.Permits words i (.psw v)) :
    s.Grants words i (lsuEffect [.psw v]) where
  writes w hw := by rw [List.mem_singleton.mp hw]; exact h
  stall p hp := by cases hp
  returns hw := by cases List.mem_singleton.mp hw

theorem State.grants_rfi (s : State) (hu : s.userMode = false) :
    s.Grants s.bundle.words .rfi { kind := .branchTaken, writes := [.returnFromException] } where
  writes w hw := by rw [List.mem_singleton.mp hw]; exact ⟨hu, rfl⟩
  stall p hp := by cases hp
  returns _ := rfl

/-- Every operation issues an effect of permitted assignments. The operations named here use the load/store unit, the
PSW or the PC; each of the others only writes registers or throws. -/
theorem exec_grants (i : Instr) (s : State) : ∃ e, exec i s = issue e s ∧ s.Grants s.bundle.words i e := by
  cases i with
  | ldw d a o => exact ⟨_, rfl, s.grants_loadWord _ _ d _⟩
  | ldh d a o => exact ⟨_, rfl, s.grants_loadPart _ _ _ _ d _⟩
  | ldhu d a o => exact ⟨_, rfl, s.grants_loadPart _ _ _ _ d _⟩
  | ldb d a o => exact ⟨_, rfl, s.grants_loadPart _ _ _ _ d _⟩
  | ldbu d a o => exact ⟨_, rfl, s.grants_loadPart _ _ _ _ d _⟩
  | ldwD d a o => exact ⟨_, rfl, s.grants_loadDismissible _ _ _ _ d _⟩
  | ldhD d a o => exact ⟨_, rfl, s.grants_loadDismissible _ _ _ _ d _⟩
  | ldhuD d a o => exact ⟨_, rfl, s.grants_loadDismissible _ _ _ _ d _⟩
  | ldbD d a o => exact ⟨_, rfl, s.grants_loadDismissible _ _ _ _ d _⟩
  | ldbuD d a o => exact ⟨_, rfl, s.grants_loadDismissible _ _ _ _ d _⟩
  | stw a o b => exact ⟨_, rfl, s.grants_storeWord _ _ _ _⟩
  | sth a o b => exact ⟨_, rfl, s.grants_storePart _ _ _ _ _⟩
  | stb a o b => exact ⟨_, rfl, s.grants_storePart _ _ _ _ _⟩
  | prgadd a o => exact ⟨_, rfl, s.grants_purge _ _ _⟩
  | prgins => exact ⟨_, rfl, State.grants_privileged fun _ => State.grants_of_plain rfl rfl⟩
  | prginspg a o => exact ⟨_, rfl, State.grants_privileged fun _ => State.grants_of_plain rfl rfl⟩
  | br c o => exact ⟨_, rfl, s.grants_branch _ _ _ o⟩
  | brf c o => exact ⟨_, rfl, s.grants_branch _ _ _ o⟩
  | goto o => exact ⟨_, rfl, s.grants_goto o⟩
  | rfi => exact ⟨_, rfl, State.grants_privileged s.grants_rfi⟩
  | pswset r => exact ⟨_, rfl, State.grants_privileged fun hu => State.grants_psw ⟨hu, .inl ⟨r, rfl, rfl⟩⟩⟩
  | pswclr r => exact ⟨_, rfl, State.grants_privileged fun hu => State.grants_psw ⟨hu, .inr ⟨r, rfl, rfl⟩⟩⟩
  | _ => exact ⟨_, rfl, State.grants_of_plain rfl rfl⟩

/-- An effect is what its operation adds to those pending. -/
theorem issue_inj {e e' : Effect} {s : State} (hn : s.bundle.toIssue ≠ 0) (h : issue e s = issue e' s) : e = e' := by
  simp only [issue, if_neg hn, Host.Outcome.next.injEq, State.mk.injEq, BundleCtx.mk.injEq,
    List.append_cancel_left_eq, List.cons.injEq] at h
  tauto

/-- In every bundle every operation has one effect, which the state before the bundle decides, and which holds permitted
assignments only. -/
theorem State.evaluates_grants (s : State) (words : Nat) (i : Instr) (e : Option (BitVec 23)) :
    ∃ eff, s.Evaluates words i e eff ∧ s.Grants words i eff := by
  obtain ⟨f, hexec, hbundle⟩ := exec_issue i
  obtain ⟨eff, hissue, hgrants⟩ := exec_grants i { s with bundle := { words := words, toIssue := 1, ext := e } }
  have heff : f { s with bundle := { words := words, toIssue := 1, ext := e } } = eff :=
    issue_inj Nat.one_ne_zero ((hexec _).symm.trans hissue)
  refine ⟨eff, State.evaluates_of_issue hexec fun n pending => ?_, ⟨hgrants.writes, hgrants.stall, hgrants.returns⟩⟩
  rw [← heff]
  exact hbundle s _ _ rfl rfl

end Sys2Proof.Machine
end

section
/-! What a step can do (60 R521; 70 R720): a debug entry, an exception entry, or the end of a legal bundle whose
operations had the effects of the state before it. -/

namespace Sys2Proof.Machine

/-! ### Bundles -/

theorem map_fst_withNeighbours (left : Option Instr) (ops : List Instr) :
    (withNeighbours left ops).map (fun x => x.2.1) = ops := by
  induction ops generalizing left with
  | nil => rfl
  | cons i rest ih => simp [withNeighbours, ih]

@[simp] theorem map_fst_attachExtensions (ops : List Instr) : (attachExtensions ops).map Prod.fst = ops := by
  simpa [attachExtensions, Function.comp_def] using map_fst_withNeighbours none ops

/-- The effects of a bundle's operations on the state before it. -/
theorem State.bundle_evaluates (s : State) (words : Nat) (xs : List (Instr × Option (BitVec 23))) :
    ∃ es, List.Forall₂ (fun x eff => s.Evaluates words x.1 x.2 eff) xs es
      ∧ List.Forall₂ (fun i eff => s.Grants words i eff) (xs.map Prod.fst) es := by
  induction xs with
  | nil => exact ⟨[], .nil, .nil⟩
  | cons x xs ih =>
    obtain ⟨eff, hev, hgr⟩ := s.evaluates_grants words x.1 x.2
    obtain ⟨es, hevs, hgrs⟩ := ih
    exact ⟨eff :: es, .cons hev hevs, .cons hgr hgrs⟩

/-- A bundle ends in `finishBundle` of effects that its operations may have. -/
theorem State.runBundle_grants (s : State) {ops : List Instr} (hne : ops ≠ []) :
    ∃ es, List.Forall₂ (fun x eff => s.Evaluates ops.length x.1 x.2 eff) (attachExtensions ops) es
      ∧ List.Forall₂ (fun i eff => s.Grants ops.length i eff) ops es
      ∧ s.runBundle ops = .next (State.finishBundle { s with bundle := { words := ops.length } } es) := by
  obtain ⟨es, hev, hgr⟩ := s.bundle_evaluates ops.length (attachExtensions ops)
  rw [map_fst_attachExtensions] at hgr
  exact ⟨es, hev, hgr, State.runBundle_of_evaluates hne hev⟩

/-! ### Decoding a bundle -/

/-- A list of syllables decodes to the operations its syllables decode to. -/
theorem decodeAll_eq_ok {ws : List Word} {ops : List Instr} :
    decodeAll ws = .ok ops ↔ ws.map decodeSyllable = ops.map Decoded.ok := by
  induction ws generalizing ops with
  | nil => cases ops <;> simp [decodeAll]
  | cons w ws ih =>
    cases hw : decodeSyllable w with
    | reject e => cases ops <;> simp [decodeAll, hw]
    | ok i =>
      cases hall : decodeAll ws with
      | error e =>
        cases ops with
        | nil => simp [decodeAll, hw, hall]
        | cons j js => simp [decodeAll, hw, hall, ← ih]
      | ok is =>
        cases ops with
        | nil => simp [decodeAll, hw, hall]
        | cons j js => simp [decodeAll, hw, hall, ← ih]

theorem endsWithStop_eq_true {ws : List Word} :
    endsWithStop ws = true ↔ ∃ w, ws.getLast? = some w ∧ stopBit w = true := by
  cases h : ws.getLast? <;> simp [endsWithStop, h]

/-- A bundle decodes to its operations if its last syllable has the stop bit, every syllable is an operation, and they
obey the placement rules (30 R216). -/
theorem decodeBundle_eq_ok {pc : Word} {ws : List Word} {ops : List Instr} :
    decodeBundle pc ws = .ok ops ↔ (∃ w, ws.getLast? = some w ∧ stopBit w = true)
      ∧ ws.map decodeSyllable = ops.map Decoded.ok ∧ bundleFlaw pc ops = none := by
  rw [← endsWithStop_eq_true, ← decodeAll_eq_ok]
  cases hstop : endsWithStop ws with
  | false => simp [decodeBundle, hstop]
  | true =>
    cases hall : decodeAll ws with
    | error e => simp [decodeBundle, hstop, hall]
    | ok is =>
      cases hflaw : bundleFlaw pc is with
      | some flaw =>
        simp only [decodeBundle, hstop, hall, hflaw]
        aesop
      | none =>
        simp only [decodeBundle, hstop, hall, hflaw]
        aesop

/-- A legal bundle is not empty. -/
theorem decodeBundle_ne_nil {pc : Word} {ws : List Word} {ops : List Instr} (h : decodeBundle pc ws = .ok ops) :
    ops ≠ [] := by
  rintro rfl
  obtain ⟨⟨w, hlast, -⟩, hmap, -⟩ := decodeBundle_eq_ok.mp h
  rw [List.map_nil, List.map_eq_nil_iff] at hmap
  rw [hmap] at hlast
  cases hlast

/-! ### The step -/

/-- The bundle `ops` at the PC of `s` is fetched from the syllables `ws`, legal and not forbidden to the mode. -/
structure State.Executes (s : State) (ws : List Word) (ops : List Instr) : Prop where
  fetched : s.fetchBundle = .ok ws
  legal : decodeBundle s.pc ws = .ok ops
  allowed : s.userMode = true → holdsPrivileged ops = false

/-- What a step from boundary state `s` can come to: a debug entry, an exception entry, or the end of a legal bundle. -/
inductive State.Outcomes (s : State) : State → Prop
  | debug (h : s.debugAccepted = true) : s.Outcomes s.enterDebug
  | exception (r : Raised) : s.Outcomes (s.takeException r)
  | bundle (ws : List Word) (ops : List Instr) (es : List Effect) (h : s.Executes ws ops)
      (hgrants : List.Forall₂ (fun i eff => s.Grants ops.length i eff) ops es) :
      s.Outcomes (State.finishBundle { s with bundle := { words := ops.length } } es)

theorem State.runSyllables_illegal {s : State} {ws : List Word} {flaw : BundleFlaw}
    (h : decodeBundle s.pc ws = .error flaw) : s.runSyllables ws = .next (s.takeException { cause := .illInst }) := by
  simp only [State.runSyllables, h]

theorem State.runSyllables_privileged {s : State} {ws : List Word} {ops : List Instr}
    (h : decodeBundle s.pc ws = .ok ops) (hu : s.userMode = true) (hp : holdsPrivileged ops = true) :
    s.runSyllables ws = .next (s.takeException { cause := .illInst }) := by
  simp [State.runSyllables, h, hu, hp]

theorem State.runSyllables_legal {s : State} {ws : List Word} {ops : List Instr}
    (h : decodeBundle s.pc ws = .ok ops) (hp : s.userMode = true → holdsPrivileged ops = false) :
    s.runSyllables ws = s.runBundle ops := by
  have hnot : ¬ (s.userMode && holdsPrivileged ops) = true := by
    cases hu : s.userMode <;> simp [hp, hu]
  simp only [State.runSyllables, h, if_neg hnot]

theorem State.runBoundary_debug {s : State} (h : s.debugAccepted = true) : s.runBoundary = .next s.enterDebug := by
  simp [State.runBoundary, h]

theorem State.runBoundary_fetchError {s : State} {r : Raised} (hd : s.debugAccepted = false)
    (hf : s.fetchBundle = .error r) : s.runBoundary
      = .next (s.takeException ((highestPriority (s.boundaryCauses ++ [r])).getD r)) := by
  simp [State.runBoundary, hd, hf]

theorem State.runBoundary_cause {s : State} {ws : List Word} {r : Raised} (hd : s.debugAccepted = false)
    (hf : s.fetchBundle = .ok ws) (hc : highestPriority s.boundaryCauses = some r) :
    s.runBoundary = .next (s.takeException r) := by
  simp [State.runBoundary, hd, hf, hc]

theorem State.runBoundary_bundle {s : State} {ws : List Word} (hd : s.debugAccepted = false)
    (hf : s.fetchBundle = .ok ws) (hc : s.boundaryCauses = []) : s.runBoundary = s.runSyllables ws := by
  simp [State.runBoundary, hd, hf, hc, highestPriority]

theorem State.runSyllables_next {s : State} {ws : List Word} (hws : s.fetchBundle = .ok ws) :
    ∃ t, s.runSyllables ws = .next t ∧ s.Outcomes t := by
  cases hops : decodeBundle s.pc ws with
  | error flaw => exact ⟨_, State.runSyllables_illegal hops, .exception _⟩
  | ok ops =>
    by_cases hpriv : s.userMode = true ∧ holdsPrivileged ops = true
    · exact ⟨_, State.runSyllables_privileged hops hpriv.1 hpriv.2, .exception _⟩
    · have hallowed : s.userMode = true → holdsPrivileged ops = false := by simpa using hpriv
      obtain ⟨es, -, hgrants, hrun⟩ := s.runBundle_grants (decodeBundle_ne_nil hops)
      exact ⟨_, (State.runSyllables_legal hops hallowed).trans hrun, .bundle ws ops es ⟨hws, hops, hallowed⟩ hgrants⟩

theorem State.runBoundary_next (s : State) : ∃ t, s.runBoundary = .next t ∧ s.Outcomes t := by
  cases hdebug : s.debugAccepted with
  | true => exact ⟨_, State.runBoundary_debug hdebug, .debug hdebug⟩
  | false =>
    cases hws : s.fetchBundle with
    | error r => exact ⟨_, State.runBoundary_fetchError hdebug hws, .exception _⟩
    | ok ws =>
      cases hcause : highestPriority s.boundaryCauses with
      | some r => exact ⟨_, State.runBoundary_cause hdebug hws hcause, .exception r⟩
      | none =>
        rw [State.runBoundary_bundle hdebug hws (highestPriority_eq_none.mp hcause)]
        exact State.runSyllables_next hws

/-- Every step answers a next state, one of those listed. -/
theorem step_next (s : State) : ∃ t, step s = .next t ∧ s.boundary.Outcomes t := s.boundary.runBoundary_next

theorem outcomes_of_step {s t : State} (h : step s = .next t) : s.boundary.Outcomes t := by
  obtain ⟨t', ht', hout⟩ := step_next s
  rw [ht'] at h
  cases h
  exact hout

/-- Settles O60: an operation issues an effect, and a step is one of the outcomes above. -/
theorem everyStepAnswersNext : Obligations.EveryStepAnswersNext := by
  refine ⟨fun i s => ?_, fun s => ?_⟩
  · obtain ⟨f, hexec, -⟩ := exec_issue i
    exact ⟨_, hexec s⟩
  · obtain ⟨t, ht, -⟩ := step_next s
    exact ⟨t, ht⟩

/-! ### A step at a bundle that is fetched -/

theorem step_eq_runSyllables {s : State} {ws : List Word} (hd : s.boundary.debugAccepted = false)
    (hc : s.boundary.boundaryCauses = []) (hf : s.boundary.fetchBundle = .ok ws) :
    step s = s.boundary.runSyllables ws := State.runBoundary_bundle hd hf hc

theorem holdsPrivileged_eq_false {ops : List Instr} :
    holdsPrivileged ops = false ↔ ∀ i ∈ ops, (opInfo i).privileged = false := by
  simp [holdsPrivileged]

/-- One syllable with its stop bit is a bundle of one operation. -/
theorem decodeBundle_single {pc w : Word} {i : Instr} (hstop : stopBit w = true) (hw : decodeSyllable w = .ok i)
    (hlegal : bundleFlaw pc [i] = none) : decodeBundle pc [w] = .ok [i] :=
  decodeBundle_eq_ok.mpr ⟨⟨w, rfl, hstop⟩, by simp [hw], hlegal⟩

/-- An operation issued by itself finishes a bundle of its own. -/
theorem exec_between {s : State} (h : s.bundle = {}) (i : Instr) : s.runBundle [i] = exec i s := by
  obtain ⟨t, ht⟩ := everyStepAnswersNext.1 i s
  have hattach : (s.openBundle 1).attach none = s := by
    cases s
    cases h
    rfl
  show issueAll [(i, none)] (s.openBundle 1) = exec i s
  rw [ht]
  exact issueAll_cons_of_next (hattach.symm ▸ ht)

/-- A privileged operation alone in its bundle does in user mode what the step does before evaluating it: it takes
ILL_INST (30 R228). -/
theorem exec_privileged {s : State} (hb : s.bundle = {}) (hu : s.userMode = true) {i : Instr}
    (hi : (opInfo i).privileged = true) : exec i s = .next (s.takeException { cause := .illInst }) := by
  have key (e : Effect) (hexec : exec i s = issue (s.privileged e) s) :
      exec i s = .next (s.takeException { cause := .illInst }) := by
    rw [hexec, issue_alone _ s hb, s.finishBundle_raise _ _ (s.privileged_raised hu e)]
  cases i with
  | prgins | prginspg | pswset | pswclr | rfi => exact key _ rfl
  | _ => cases hi

/-- A step at a bundle of one operation executes it. -/
theorem step_eq_exec {s : State} {w : Word} {i : Instr} (hd : s.boundary.debugAccepted = false)
    (hc : s.boundary.boundaryCauses = []) (hb : s.boundary.bundle = {}) (hf : s.boundary.fetchBundle = .ok [w])
    (hstop : stopBit w = true) (hw : decodeSyllable w = .ok i) (hlegal : bundleFlaw s.boundary.pc [i] = none) :
    step s = exec i s.boundary := by
  have hdecode := decodeBundle_single hstop hw hlegal
  rw [step_eq_runSyllables hd hc hf]
  by_cases hpriv : s.boundary.userMode = true ∧ (opInfo i).privileged = true
  · obtain ⟨hu, hi⟩ := hpriv
    rw [exec_privileged hb hu hi]
    exact State.runSyllables_privileged hdecode hu (by simp [holdsPrivileged, hi])
  · rw [State.runSyllables_legal hdecode fun hu => ?_, exec_between hb]
    simpa [holdsPrivileged, hu] using hpriv

/-- At a quiet boundary nothing happens. -/
theorem State.boundary_of_quiet {s : State} (h : s.quiet) : s.boundary = s := by
  obtain ⟨hinputs, hdebug, htrigger, herror, -, -⟩ := h
  cases s
  dsimp only at hinputs hdebug htrigger herror
  simp [State.boundary, State.sampleTrigger, State.ageBusError, hinputs, hdebug, htrigger, herror]

/-- Settles O4: `step_eq_exec` for one operation, `runSyllables_legal` for a bundle of any length. -/
theorem stepRunsTheDecodedInstruction : Obligations.StepRunsTheDecodedInstruction := by
  refine ⟨fun s w i hquiet hb hf hstop hw hlegal => ?_, fun s w i => step_eq_exec, fun s ws ops hd hc hf hops hu => ?_⟩
  · have hboundary := State.boundary_of_quiet hquiet
    have hstep := step_eq_exec (s := s) (w := w) (i := i)
    rw [hboundary] at hstep
    refine hstep ?_ ?_ hb hf hstop hw hlegal
    · simp [State.debugAccepted, hquiet.noDebug]
    · simp [State.boundaryCauses, State.busErrorDue, hquiet.noBusError, hquiet.noInterrupt, hquiet.noBreakpoint]
  · rw [step_eq_runSyllables hd hc hf]
    exact State.runSyllables_legal hops fun hmode => holdsPrivileged_eq_false.mpr (hu hmode)

/-- Settles O6: the step takes ILL_INST, whose entry changes what `Traps` says. -/
theorem illegalBundleRaisesIllInst : Obligations.IllegalBundleRaisesIllInst := by
  have htraps (s : State) : Traps .illInst 0#32 s (s.takeException { cause := .illInst }) :=
    s.takeException_traps { cause := .illInst } fun _ _ => rfl
  refine ⟨fun s ws flaw hd hc hf hflaw => ⟨_, ?_, htraps _⟩, fun s ws ops i hd hc hf hops hu hi hp => ⟨_, ?_, htraps _⟩⟩
  · rw [step_eq_runSyllables hd hc hf, State.runSyllables_illegal hflaw]
  · have hholds : holdsPrivileged ops = true := List.any_eq_true.mpr ⟨i, hi, hp⟩
    rw [step_eq_runSyllables hd hc hf, State.runSyllables_privileged hops hu hholds]

end Sys2Proof.Machine
end

section
/-! What the assignments of a commit phase and the environment's events can change of the state, and the two invariants
they keep (10 R21, R30, R68; 61 R667, R668). -/

namespace Sys2Proof.Machine

/-! ### Control registers, ports and peripheral registers -/

/-- A store to a control register changes the trap, memory management, breakpoint and performance monitor registers and
the SDI ports only. -/
theorem State.storeCreg_frame (s : State) (r : CReg) (v : Word) : ∃ trap mmu brk pm sdi,
    s.storeCreg r v = { s with trap := trap, mmu := mmu, brk := brk, pm := pm, sdi := sdi } := by
  cases r with
  | tlbIndex =>
    by_cases h : v.extractLsb' 6 2 = 0#2
    · exact ⟨_, _, _, _, _, if_pos h⟩
    · exact ⟨_, _, _, _, _, if_neg h⟩
  | sdiData i =>
    unfold State.storeCreg
    repeat' split
    all_goals exact ⟨_, _, _, _, _, rfl⟩
  | _ => exact ⟨_, _, _, _, _, rfl⟩

/-- A store to a peripheral register changes the interrupt controller, the timers and the debug support unit only. -/
theorem State.storePeriph_frame (s : State) (r : PeriphReg) (v : Word) : ∃ intc timers dsu,
    s.storePeriph r v = { s with intc := intc, timers := timers, dsu := dsu } := by
  cases r with
  | dsr n =>
    unfold State.storePeriph State.storeDsr
    repeat' split
    all_goals exact ⟨_, _, _, rfl⟩
  | _ => exact ⟨_, _, _, rfl⟩

@[simp] theorem State.storeCreg_cfg (s : State) (r : CReg) (v : Word) : (s.storeCreg r v).cfg = s.cfg := by
  obtain ⟨_, _, _, _, _, heq⟩ := s.storeCreg_frame r v
  rw [heq]

@[simp] theorem State.storeCreg_psw (s : State) (r : CReg) (v : Word) : (s.storeCreg r v).psw = s.psw := by
  obtain ⟨_, _, _, _, _, heq⟩ := s.storeCreg_frame r v
  rw [heq]

@[simp] theorem State.storeCreg_dsu (s : State) (r : CReg) (v : Word) : (s.storeCreg r v).dsu = s.dsu := by
  obtain ⟨_, _, _, _, _, heq⟩ := s.storeCreg_frame r v
  rw [heq]

@[simp] theorem State.storePeriph_psw (s : State) (r : PeriphReg) (v : Word) : (s.storePeriph r v).psw = s.psw := by
  obtain ⟨_, _, _, heq⟩ := s.storePeriph_frame r v
  rw [heq]

/-- A store leaves TLB_EXCAUSE as it was, but one to it writes its fields (10 R68). -/
theorem State.storeCreg_tlbExcause (s : State) (r : CReg) (v : Word) :
    (s.storeCreg r v).mmu.tlbExcause = if r = .tlbExcause then v &&& 0x001F00FF#32 else s.mmu.tlbExcause := by
  cases r with
  | tlbExcause => rfl
  | tlbIndex =>
    by_cases h : v.extractLsb' 6 2 = 0#2 <;> simp [State.storeCreg, h]
  | sdiData i =>
    rw [if_neg (by simp)]
    unfold State.storeCreg
    dsimp only
    repeat' split
    all_goals rfl
  | _ => rfl

/-! ### The invariant of the machine -/

theorem alignDown_alignDown (w : Word) : alignDown (alignDown w) = alignDown w := by
  simp [alignDown, BitVec.and_assoc]

theorem alignDown_eq_shift (w : Word) : alignDown w = (w >>> 2) <<< 2 := by
  ext i hi
  interval_cases i <;> simp [alignDown]

/-- A word address is a multiple of 4. -/
theorem alignDown_eq_self_iff (w : Word) : alignDown w = w ↔ w.toNat % 4 = 0 := by
  rw [alignDown_eq_shift, ← BitVec.toNat_inj, BitVec.toNat_shiftLeft, BitVec.toNat_ushiftRight,
    Nat.shiftRight_eq_div_pow, Nat.shiftLeft_eq]
  have := w.isLt
  omega

theorem peripheralBase_toNat (p : Params) : p.peripheralBase.toNat = p.peripheralPins.toNat * 2 ^ 20 := by
  rw [Params.peripheralBase, BitVec.toNat_append, Nat.shiftLeft_eq]
  simp

theorem alignDown_debugRomBase (p : Params) : alignDown p.debugRomBase = p.debugRomBase := by
  rw [alignDown_eq_self_iff, Params.debugRomBase, BitVec.toNat_add, peripheralBase_toNat p]
  have := p.peripheralPins.isLt
  simp
  omega

theorem alignDown_debugHandlerPc (p : Params) : alignDown (debugHandlerPc p) = debugHandlerPc p := by
  rw [alignDown_eq_self_iff, debugHandlerPc, BitVec.toNat_add, peripheralBase_toNat p]
  have := p.peripheralPins.isLt
  simp
  omega

theorem TlbRecord.word_reserved (r : TlbRecord) : r.word &&& ~~~0x001F00FF#32 = 0#32 := by
  ext i hi
  interval_cases i <;> simp [-Nat.reduceAdd, TlbRecord.word, BitVec.getElem_append]

theorem pswOnException_reserved {psw : Word} (h : psw &&& ~~~0x131F#32 = 0#32) :
    pswOnException psw &&& ~~~0x131F#32 = 0#32 := by
  rw [pswOnException, BitVec.and_assoc, BitVec.and_comm (~~~0x303#32), ← BitVec.and_assoc, h, BitVec.zero_and]

theorem pswOnDebug_reserved {psw : Word} (h : psw &&& ~~~0x131F#32 = 0#32) :
    pswOnDebug psw &&& ~~~0x131F#32 = 0#32 := by
  rw [pswOnDebug, BitVec.and_or_distrib_right, BitVec.and_assoc, BitVec.and_comm (~~~0x307#32), ← BitVec.and_assoc, h]
  rfl

/-- A permitted assignment keeps the invariant. -/
theorem State.Inv.applyWrite {s u : State} {words : Nat} {i : Instr} {w : Write} (hw : s.Permits words i w)
    (h : u.Inv) : (applyWrite u w).Inv := by
  cases w with
  | gpr r v =>
    show (u.setGpr r v).Inv
    unfold State.setGpr
    split
    · exact h
    · exact { h with }
  | br b v => exact { h with }
  | pc v => exact { h with pcAligned := alignDown_alignDown v }
  | psw v =>
    obtain ⟨-, ⟨r, -, rfl⟩ | ⟨r, -, rfl⟩⟩ := hw
    · exact { h with pswReserved := pswAssign_reserved _ _ }
    · exact { h with pswReserved := pswAssign_reserved _ _ }
  | mem pa w v => exact { h with memory := Memory.wf_store h.memory _ pa w v }
  | creg r v =>
    obtain ⟨trap, mmu, brk, pm, sdi, heq⟩ := u.storeCreg_frame r v
    have htlb := u.storeCreg_tlbExcause r v
    show (u.storeCreg r v).Inv
    rw [heq] at htlb ⊢
    refine { h with tlbExcauseReserved := ?_ }
    rw [show mmu.tlbExcause = _ from htlb]
    split
    · simp [BitVec.and_assoc]
    · exact h.tlbExcauseReserved
  | periph r v =>
    obtain ⟨intc, timers, dsu, heq⟩ := u.storePeriph_frame r v
    show (u.storePeriph r v).Inv
    rw [heq]
    exact { h with }
  | lfsrClock => exact { h with }
  | sdiTake p => exact { h with }
  | busError =>
    show u.postBusError.Inv
    unfold State.postBusError
    split
    · exact h
    · exact { h with }
  | returnFromException =>
    exact { h with pcAligned := alignDown_alignDown _, pswReserved := pswAssign_reserved _ _ }
  | enterIdle => exact { h with }

/-! ### The environment's events -/

/-- Every event but the reset changes the SDI ports, the timers, the debug support unit, the pins, what the host has
been sent, a pending debug interrupt or bus error, and memory only. -/
theorem applyEvent_frame (s : State) {e : EnvEvent} (h : e ≠ .resetPin) : ∃ sdi timers dsu pins mem dbg dc toHost,
    applyEvent s e = { s with
      sdi := sdi, timers := timers, dsu := dsu, pins := pins, mem := mem, dbgPending := dbg, dcError := dc
      toHost := toHost } := by
  cases e with
  | resetPin => exact absurd rfl h
  | busClock =>
    simp only [applyEvent, State.busClock]
    split
    all_goals exact ⟨_, _, _, _, _, _, _, _, rfl⟩
  | hostPoke n v =>
    simp only [applyEvent, State.pokeDsr]
    repeat' split
    all_goals exact ⟨_, _, _, _, _, _, _, _, rfl⟩
  | hostEvent reason channel =>
    simp only [applyEvent]
    split
    all_goals exact ⟨_, _, _, _, _, _, _, _, rfl⟩
  | hostEventAck =>
    simp only [applyEvent]
    split
    all_goals exact ⟨_, _, _, _, _, _, _, _, rfl⟩
  | dsuSend =>
    simp only [applyEvent, State.dsuSend]
    repeat' split
    all_goals exact ⟨_, _, _, _, _, _, _, _, rfl⟩
  | sdiPush p v =>
    simp only [applyEvent, State.sdiDevicePush]
    split
    all_goals exact ⟨_, _, _, _, _, _, _, _, rfl⟩
  | sdiPop p =>
    simp only [applyEvent, State.sdiDevicePop]
    split
    all_goals exact ⟨_, _, _, _, _, _, _, _, rfl⟩
  | _ => exact ⟨_, _, _, _, _, _, _, _, rfl⟩

/-- Memory changes by another bus master's write only. -/
theorem applyEvent_mem (s : State) (e : EnvEvent) :
    (applyEvent s e).mem = match e with
      | .busWrite pa v => s.mem.write pa.toNat v
      | _ => s.mem := by
  cases e with
  | busClock => simp only [applyEvent, State.busClock]; split <;> rfl
  | hostPoke n v => simp only [applyEvent, State.pokeDsr]; repeat' split
                    all_goals rfl
  | hostEvent reason channel => simp only [applyEvent]; split <;> rfl
  | hostEventAck => simp only [applyEvent]; split <;> rfl
  | dsuSend => simp only [applyEvent, State.dsuSend]; repeat' split
               all_goals rfl
  | sdiPush p v => simp only [applyEvent, State.sdiDevicePush]; split <;> rfl
  | sdiPop p => simp only [applyEvent, State.sdiDevicePop]; split <;> rfl
  | _ => rfl

theorem State.resetWith_pcAligned (cfg : Params) (m : Memory) (pins : Pins) (inputs : List (List EnvEvent))
    (sent : List DsuMessage) (n : Nat) : alignDown (State.resetWith cfg m pins inputs sent n).pc
      = (State.resetWith cfg m pins inputs sent n).pc := by
  unfold State.resetWith
  dsimp only
  split
  · exact alignDown_debugRomBase cfg
  · exact alignDown_alignDown _

theorem State.Inv.resetWith (cfg : Params) {m : Memory} (hm : m.wf = true) (pins : Pins)
    (inputs : List (List EnvEvent)) (sent : List DsuMessage) (n : Nat) :
    (State.resetWith cfg m pins inputs sent n).Inv where
  memory := hm
  pcAligned := State.resetWith_pcAligned cfg m pins inputs sent n
  pswReserved := BitVec.zero_and
  tlbExcauseReserved := BitVec.zero_and
  betweenBundles := rfl

theorem State.Inv.applyEvent {s : State} (h : s.Inv) (e : EnvEvent) : (applyEvent s e).Inv := by
  by_cases hreset : e = .resetPin
  · subst hreset
    exact State.Inv.resetWith _ h.memory _ _ _ _
  · obtain ⟨sdi, timers, dsu, pins, mem, dbg, dc, toHost, heq⟩ := applyEvent_frame s hreset
    have hmem := applyEvent_mem s e
    rw [heq] at hmem ⊢
    refine { h with memory := ?_ }
    rw [show mem = _ from hmem]
    split
    · exact Memory.wf_write h.memory (BitVec.isLt _) _
    · exact h.memory

/-- A property that every event keeps, and that ignores what the sampling of the pins changes, holds at the boundary. -/
theorem State.boundary_induction {P : State → Prop} (s : State) (h : P { s with inputs := s.inputs.tail })
    (hevent : ∀ u e, P u → P (applyEvent u e))
    (hsample : ∀ u dbg, P u → P { u with dbgPending := dbg }) (hage : ∀ u dc, P u → P { u with dcError := dc }) :
    P s.boundary :=
  hage _ _ (hsample _ _ (List.foldlRecOn _ applyEvent h fun u hu e _ => hevent u e hu))

theorem State.Inv.boundary {s : State} (h : s.Inv) : s.boundary.Inv :=
  s.boundary_induction { h with } (fun _ e hu => hu.applyEvent e) (fun _ _ hu => { hu with })
    fun _ _ hu => { hu with }

/-! ### The outcomes of a step -/

theorem State.Inv.takeException {s : State} (h : s.Inv) (r : Raised) : (s.takeException r).Inv where
  memory := h.memory
  pcAligned := alignDown_alignDown _
  pswReserved := pswOnException_reserved h.pswReserved
  tlbExcauseReserved := by
    rw [State.takeException_mmu]
    cases r.tlb with
    | none => exact h.tlbExcauseReserved
    | some record => exact record.word_reserved
  betweenBundles := rfl

theorem State.Inv.enterDebug {s : State} (h : s.Inv) : s.enterDebug.Inv where
  memory := by rw [State.enterDebug_mem]; exact h.memory
  pcAligned := s.enterDebug_pc ▸ alignDown_debugHandlerPc s.cfg
  pswReserved := s.enterDebug_psw ▸ pswOnDebug_reserved h.pswReserved
  tlbExcauseReserved := h.tlbExcauseReserved
  betweenBundles := rfl

/-- A cycle of an SDI stall is an SDI_TIMEOUT, or leaves all but TIMEOUT of the port and the passing of time. -/
theorem State.stallCycle_cases (s : State) (p : Fin 4) :
    s.stallCycle p = s.takeException { cause := .sdiTimeout, addr := sdiDataAddress p }
    ∨ ∃ timeout, s.stallCycle p = { (s.setSdiPort p { s.sdiPort p with timeout := timeout }).tick {} true with
        sdiStalled := true, idleMode := false, bundle := {} } := by
  unfold State.stallCycle
  dsimp only
  split
  · exact .inl rfl
  · right
    split
    · exact ⟨(s.sdiPort p).timeout, rfl⟩
    · exact ⟨_, rfl⟩

/-- What holds at the end of a bundle: of an exception entry, of a cycle of an SDI stall that a granted access waits
for, and after any sequence of assignments that the bundle's operations may make. -/
theorem State.finishBundle_induction {P : State → Prop} {s : State} {words : Nat} {ops : List Instr} {es : List Effect}
    {b : BundleCtx} (hgrants : List.Forall₂ (fun i eff => s.Grants words i eff) ops es)
    (hexception : ∀ r, P (s.takeException r))
    (hstall : ∀ p timeout, s.access (.sdiData p) ≠ .na →
      P { (s.setSdiPort p { s.sdiPort p with timeout := timeout }).tick {} true with
          sdiStalled := true, idleMode := false, bundle := {} })
    (hadvance : P (State.advance { s with bundle := b } es))
    (hwrite : ∀ u, ∀ i ∈ ops, ∀ w, s.Permits words i w → P u → P (applyWrite u w)) :
    P (State.finishBundle { s with bundle := b } es) := by
  have hmem {e : Effect} (he : e ∈ es) : ∃ i ∈ ops, s.Grants words i e := by
    obtain ⟨k, hk, rfl⟩ := List.getElem_of_mem he
    have hk' : k < ops.length := hgrants.length_eq ▸ hk
    exact ⟨ops[k], List.getElem_mem hk', hgrants.get hk' hk⟩
  rcases State.finishBundle_cases { s with bundle := b } es with
    ⟨r, heq, -⟩ | ⟨p, heq, e, he, hstalls⟩ | ⟨heq, -, -⟩
  · exact heq ▸ hexception r
  · obtain ⟨i, -, hgrant⟩ := hmem he
    rw [heq]
    rcases State.stallCycle_cases { s with bundle := b } p with h | ⟨timeout, h⟩
    · exact h ▸ hexception _
    · exact h ▸ hstall p timeout (hgrant.stall p hstalls)
  · rw [heq]
    refine List.foldlRecOn _ applyWrite hadvance fun u hu w hw => ?_
    obtain ⟨e, he, hw⟩ := List.mem_flatMap.mp hw
    obtain ⟨i, hi, hgrant⟩ := hmem he
    exact hwrite u i hi w (hgrant.writes w hw) hu

/-- Settles O54: the boundary keeps the invariant, and so does each outcome of the step. -/
theorem invariantIsKeptByEveryStep : Obligations.InvariantIsKeptByEveryStep := by
  intro s t h hstep
  have hb : s.boundary.Inv := h.boundary
  cases outcomes_of_step hstep with
  | debug => exact hb.enterDebug
  | exception r => exact hb.takeException r
  | bundle ws ops es _ hgrants =>
    refine State.finishBundle_induction (P := State.Inv) hgrants hb.takeException (fun p timeout _ => ?_) ?_
      fun u i _ w hw hu => hu.applyWrite hw
    · exact { hb with betweenBundles := rfl }
    · exact { hb with pcAligned := alignDown_alignDown _, betweenBundles := rfl }

end Sys2Proof.Machine
end

section
/-! The invariant of the debug support unit (61 R667, R668), reset, and the ways into debug mode (10 R33; 61 R610). -/

namespace Sys2Proof.Machine

/-! ### The debug support unit -/

/-- The unit's registers and the variant decide the invariant. -/
theorem State.DsuInv.congr {s t : State} (h : s.DsuInv) (hdsu : t.dsu = s.dsu) (hcfg : t.cfg = s.cfg) : t.DsuInv where
  exclusive := by rw [hdsu]; exact h.exclusive
  tapLinkAck := by rw [hdsu, hcfg]; exact h.tapLinkAck
  tapLinkByte := by rw [hdsu, hcfg]; exact h.tapLinkByte

/-- In the TAPLink variant DSR2 has 8 bits (61 R668). -/
theorem dsr2Data_tapLink (v : Word) : (dsr2Data .tapLink v).extractLsb' 8 24 = 0#24 := by
  ext i hi
  simp [dsr2Data]

theorem State.DsuInv.storeDsr {s : State} (h : s.DsuInv) (n : Fin 32) (v : Word) : (s.storeDsr n v).DsuInv := by
  unfold State.storeDsr
  split
  · split
    · exact h
    split
    · exact { h with }
    split
    · cases hvariant : s.cfg.debugVariant with
      | tapLink =>
        exact {
          exclusive := by simp [Dsu.storeOutput, h.tapLinkAck hvariant]
          tapLinkAck := h.tapLinkAck
          tapLinkByte := fun _ => dsr2Data_tapLink v }
      | jtag =>
        refine ⟨?_, fun ht => ?_, fun ht => ?_⟩
        · simp [Dsu.storeOutput]
        · rw [hvariant] at ht
          cases ht
        · rw [hvariant] at ht
          cases ht
    · exact { h with }
  · exact h

theorem State.DsuInv.pokeDsr {s : State} (h : s.DsuInv) (n : Fin 32) (v : Word) : (s.pokeDsr n v).DsuInv := by
  unfold State.pokeDsr
  split
  · exact h
  split
  · exact { h with }
  split
  · refine { h with tapLinkByte := fun ht => ?_ }
    dsimp only at ht ⊢
    rw [ht]
    exact dsr2Data_tapLink v
  · exact { h with }

theorem State.DsuInv.dsuSend {s : State} (h : s.DsuInv) : s.dsuSend.DsuInv := by
  unfold State.dsuSend
  split
  · split
    · exact { h with exclusive := rfl }
    · rename_i hvariant
      refine ⟨rfl, fun ht => ?_, fun ht => ?_⟩
      · cases hvariant.symm.trans ht
      · cases hvariant.symm.trans ht
  · exact h

theorem State.DsuInv.applyWrite {s : State} (h : s.DsuInv) (w : Write) : (applyWrite s w).DsuInv := by
  cases w with
  | gpr r v => exact h.congr (s.setGpr_dsu r v) (s.setGpr_cfg r v)
  | creg r v => exact h.congr (s.storeCreg_dsu r v) (s.storeCreg_cfg r v)
  | periph r v =>
    cases r with
    | dsr n => exact h.storeDsr n v
    | _ => exact { h with }
  | busError => exact h.congr s.postBusError_dsu s.postBusError_cfg
  | _ => exact { h with }

theorem State.DsuInv.resetWith (cfg : Params) (m : Memory) (pins : Pins) (inputs : List (List EnvEvent))
    (sent : List DsuMessage) (n : Nat) : (State.resetWith cfg m pins inputs sent n).DsuInv where
  exclusive := rfl
  tapLinkAck _ := rfl
  tapLinkByte _ := BitVec.extractLsb'_zero

theorem State.DsuInv.applyEvent {s : State} (h : s.DsuInv) (e : EnvEvent) : (applyEvent s e).DsuInv := by
  cases e with
  | resetPin => exact .resetWith ..
  | busClock =>
    show s.busClock.DsuInv
    unfold State.busClock
    split <;> exact { h with }
  | hostPoke n v =>
    have hpoke := h.pokeDsr n v
    simp only [Machine.applyEvent]
    split
    · exact hpoke
    · exact { hpoke with }
  | hostEvent reason channel =>
    simp only [Machine.applyEvent]
    split <;> exact { h with }
  | hostEventAck =>
    simp only [Machine.applyEvent]
    split
    · exact h
    · exact { h with exclusive := Bool.and_false _, tapLinkAck := fun _ => rfl }
  | dsuSend => exact h.dsuSend
  | sdiPush p v =>
    show (s.sdiDevicePush p v).DsuInv
    unfold State.sdiDevicePush
    dsimp only
    split
    · exact { h with }
    · exact h
  | sdiPop p =>
    show (s.sdiDevicePop p).DsuInv
    unfold State.sdiDevicePop
    dsimp only
    split
    · exact h
    · exact { h with }
  | _ => exact { h with }

theorem State.DsuInv.boundary {s : State} (h : s.DsuInv) : s.boundary.DsuInv :=
  s.boundary_induction { h with } (fun _ e hu => hu.applyEvent e) (fun _ _ hu => { hu with }) fun _ _ hu => { hu with }

/-- Settles O56: the boundary keeps the invariant, and so does every assignment. -/
theorem dsuInvariantIsKeptByEveryStep : Obligations.DsuInvariantIsKeptByEveryStep := by
  intro s t h hstep
  have hb : s.boundary.DsuInv := h.boundary
  have hexception (r : Raised) : (s.boundary.takeException r).DsuInv := { hb with }
  cases outcomes_of_step hstep with
  | debug => exact hb.congr s.boundary.enterDebug_dsu s.boundary.enterDebug_cfg
  | exception r => exact hexception r
  | bundle ws ops es _ hgrants =>
    exact State.finishBundle_induction (P := State.DsuInv) hgrants hexception (fun _ _ _ => { hb with }) { hb with }
      fun u _ _ w _ hu => hu.applyWrite w

/-! ### Reset -/

/-- Settles O55. -/
theorem invariantsHoldAtReset : Obligations.InvariantsHoldAtReset :=
  ⟨State.Inv.resetWith _ Memory.wf_empty _ _ _ _, .resetWith .., fun cfg _ pins inputs sent n hm =>
    ⟨.resetWith cfg hm pins inputs sent n, .resetWith ..⟩⟩

/-! ### Debug mode -/

/-- An assignment other than one of the PSW or rfi leaves the PSW as it was. -/
theorem applyWrite_psw (s : State) {w : Write} (hpsw : ∀ v, w ≠ .psw v) (hrfi : w ≠ .returnFromException) :
    (applyWrite s w).psw = s.psw := by
  cases w with
  | gpr r v => exact s.setGpr_psw r v
  | psw v => exact absurd rfl (hpsw v)
  | returnFromException => exact absurd rfl hrfi
  | creg r v => exact s.storeCreg_psw r v
  | periph r v => exact s.storePeriph_psw r v
  | busError => exact s.postBusError_psw
  | _ => rfl

/-- No permitted assignment sets DEBUG_MODE (10 R33). -/
theorem applyWrite_debugMode {s u : State} {words : Nat} {i : Instr} {w : Write} (hw : s.Permits words i w)
    (hs : s.psw.getLsbD 12 = false) (hu : u.psw.getLsbD 12 = false) : (applyWrite u w).psw.getLsbD 12 = false := by
  cases w with
  | psw v =>
    obtain ⟨-, ⟨r, -, rfl⟩ | ⟨r, -, rfl⟩⟩ := hw
    · exact pswAssign_debugMode _ _ hs
    · exact pswAssign_debugMode _ _ hs
  | returnFromException => exact pswAssign_debugMode _ _ hu
  | _ =>
    rw [applyWrite_psw u (fun _ h => by cases h) (fun h => by cases h)]
    exact hu

/-- The boundary leaves the PSW as it was, or a reset clears it. -/
theorem State.boundary_psw (s : State) : s.boundary.psw = s.psw ∨ s.boundary.psw = 0#32 := by
  refine s.boundary_induction (P := fun u => u.psw = s.psw ∨ u.psw = 0#32) (.inl rfl) (fun u e hu => ?_)
    (fun _ _ hu => hu) fun _ _ hu => hu
  by_cases hreset : e = .resetPin
  · exact .inr (hreset ▸ rfl)
  · obtain ⟨sdi, timers, dsu, pins, mem, dbg, dc, toHost, heq⟩ := applyEvent_frame u hreset
    exact (congrArg State.psw heq).symm ▸ hu

/-- Settles O57: no outcome of a step but debug entry sets DEBUG_MODE. -/
theorem debugModeOnlyByDebugInterrupt : Obligations.DebugModeOnlyByDebugInterrupt := by
  intro s t hs hstep ht
  have hb : s.boundary.psw.getLsbD 12 = false := by
    rcases s.boundary_psw with h | h
    · rw [h, hs]
    · rw [h, BitVec.getLsbD_zero]
  have hexception (r : Raised) : (s.boundary.takeException r).psw.getLsbD 12 = false := by
    rw [State.takeException_psw, pswOnException, BitVec.getLsbD_and, hb, Bool.false_and]
  cases outcomes_of_step hstep with
  | debug h =>
    simp only [State.debugAccepted, Bool.and_eq_true] at h
    exact ⟨h.1, rfl⟩
  | exception r =>
    rw [hexception r] at ht
    cases ht
  | bundle ws ops es _ hgrants =>
    have hfalse := State.finishBundle_induction (P := fun u => u.psw.getLsbD 12 = false)
      (b := { words := ops.length }) hgrants hexception (fun _ _ _ => hb) hb
      fun u _ _ w hw hu => applyWrite_debugMode hw hb hu
    rw [hfalse] at ht
    cases ht

end Sys2Proof.Machine
end

section
/-! User mode: how it is entered (60 R530) and what a step in it leaves unchanged. -/

namespace Sys2Proof.Machine

/-! ### Entering user mode -/

theorem pswAssign_userMode (old new : Word) : (pswAssign old new).getLsbD 0 = new.getLsbD 0 := by
  simp [pswAssign]

/-- The operations that may write the PSW must be first in their bundle (30 R219). -/
theorem firstOnly_of_permits {s : State} {words : Nat} {i : Instr} {w : Write} (h : s.Permits words i w)
    (hw : (∃ v, w = .psw v) ∨ w = .returnFromException) : (opInfo i).firstOnly = true := by
  obtain ⟨v, rfl⟩ | rfl := hw
  · obtain ⟨-, ⟨r, rfl, -⟩ | ⟨r, rfl, -⟩⟩ := h
    · rfl
    · rfl
  · obtain ⟨-, rfl⟩ := h
    rfl

/-- The assignments of an operation other than the first of a legal bundle leave the PSW as it was. -/
theorem foldl_applyWrite_psw {s : State} {words : Nat} {ops : List Instr} {es : List Effect}
    (hgrants : List.Forall₂ (fun i eff => s.Grants words i eff) ops es)
    (hops : ∀ i ∈ ops, (opInfo i).firstOnly = false) (u : State) :
    ((bundleWrites es).foldl applyWrite u).psw = u.psw := by
  induction hgrants generalizing u with
  | nil => rfl
  | @cons i eff ops es hgrant _ ih =>
    have hkeeps : (eff.writes.foldl applyWrite u).psw = u.psw := by
      refine List.foldlRecOn (motive := fun v => v.psw = u.psw) _ applyWrite rfl fun v hv w hw => ?_
      have hnot : ¬ ((∃ v, w = .psw v) ∨ w = .returnFromException) := fun h => by
        have := firstOnly_of_permits (hgrant.writes w hw) h
        rw [hops i List.mem_cons_self] at this
        cases this
      rw [applyWrite_psw v (fun x hx => hnot (.inl ⟨x, hx⟩)) fun hx => hnot (.inr hx), hv]
    show ((eff.writes ++ bundleWrites es).foldl applyWrite u).psw = u.psw
    rw [List.foldl_append, ih (fun j hj => hops j (List.mem_cons_of_mem _ hj)), hkeeps]

/-- From supervisor mode the first operation's assignments lead to user mode only if it is rfi with USER_MODE set in
SAVED_PSW, or pswset of a register with bit 0 set. -/
theorem userMode_of_first {s u : State} {words : Nat} {i : Instr} {eff : Effect} (hgrant : s.Grants words i eff)
    (hs : s.psw.getLsbD 0 = false) (hpsw : u.psw = s.psw) (htrap : u.trap = s.trap)
    (h : (eff.writes.foldl applyWrite u).psw.getLsbD 0 = true) :
    (i = .rfi ∧ s.trap.savedPsw.getLsbD 0 = true) ∨ ∃ r, i = .pswset r ∧ (s.gpr r).getLsbD 0 = true := by
  by_cases hrfi : .returnFromException ∈ eff.writes
  · obtain ⟨-, rfl⟩ := hgrant.writes _ hrfi
    rw [hgrant.returns hrfi] at h
    refine .inl ⟨rfl, ?_⟩
    replace h : (pswAssign u.psw u.trap.savedPsw).getLsbD 0 = true := h
    rwa [pswAssign_userMode, htrap] at h
  · right
    revert h
    refine List.foldlRecOn (motive := fun v => v.psw.getLsbD 0 = true → _) _ applyWrite (fun h => ?_)
      fun v hv w hw h => ?_
    · rw [hpsw, hs] at h
      cases h
    · have hpermits := hgrant.writes w hw
      cases w with
      | psw x =>
        replace h : x.getLsbD 0 = true := h
        obtain ⟨-, ⟨r, rfl, rfl⟩ | ⟨r, rfl, rfl⟩⟩ := hpermits
        · rw [pswAssign_userMode, BitVec.getLsbD_or, hs, Bool.false_or] at h
          exact ⟨r, rfl, h⟩
        · rw [pswAssign_userMode, BitVec.getLsbD_and, hs, Bool.false_and] at h
          cases h
      | returnFromException => exact absurd hw hrfi
      | _ =>
        rw [applyWrite_psw v (fun _ h => by cases h) (fun h => by cases h)] at h
        exact hv h

/-- Exception entry leaves user mode (60 R506). -/
theorem State.takeException_userMode (s : State) (r : Raised) : (s.takeException r).psw.getLsbD 0 = false := by
  simp [pswOnException]

theorem State.enterDebug_userMode (s : State) : s.enterDebug.psw.getLsbD 0 = false := by
  simp [pswOnDebug]

/-- A cycle of an SDI stall that ends in user mode is no exception entry, so it leaves the PSW as it was. -/
theorem State.stallCycle_psw {s : State} {p : Fin 4} (h : (s.stallCycle p).psw.getLsbD 0 = true) :
    (s.stallCycle p).psw = s.psw := by
  rcases s.stallCycle_cases p with heq | ⟨timeout, heq⟩
  · rw [heq, State.takeException_userMode] at h
    cases h
  · rw [heq]
    rfl

/-- Settles O59: only the first operation of a legal bundle writes the PSW. -/
theorem userModeOnlyByRfiOrPswset : Obligations.UserModeOnlyByRfiOrPswset := by
  intro s t hs hstep ht
  cases outcomes_of_step hstep with
  | debug => cases (State.enterDebug_userMode _).symm.trans ht
  | exception r => cases (State.takeException_userMode _ r).symm.trans ht
  | bundle ws ops es hexec hgrants =>
    refine ⟨ws, ops, hexec.fetched, hexec.legal, ?_⟩
    obtain ⟨-, -, hflaw⟩ := decodeBundle_eq_ok.mp hexec.legal
    rcases State.finishBundle_cases { s.boundary with bundle := { words := ops.length } } es with
      ⟨r, heq, -⟩ | ⟨p, heq, -⟩ | ⟨heq, -, -⟩
    · rw [heq, State.takeException_userMode] at ht
      cases ht
    · rw [heq] at ht
      rw [State.stallCycle_psw ht] at ht
      cases hs.symm.trans ht
    · rw [heq] at ht
      cases hgrants with
      | nil => exact absurd rfl (decodeBundle_ne_nil hexec.legal)
      | @cons i eff ops es hgrant hrest =>
        have hfirst : ∀ j ∈ ops, (opInfo j).firstOnly = false := fun j hj => firstOnly_of_mem_tail hflaw hj
        replace ht : ((eff.writes ++ bundleWrites es).foldl applyWrite _).psw.getLsbD 0 = true := ht
        rw [List.foldl_append, foldl_applyWrite_psw hrest hfirst] at ht
        rcases userMode_of_first hgrant hs (by rfl) (by rfl) ht with ⟨rfl, hsaved⟩ | ⟨r, rfl, hr⟩
        · exact .inl ⟨List.mem_cons_self, hsaved⟩
        · exact .inr ⟨r, List.mem_cons_self, hr⟩

end Sys2Proof.Machine
end

section
/-! What a step in user mode keeps (60 R530; 61 R641, R680, R690). -/

namespace Sys2Proof.Machine

/-! ### SDI ports -/

theorem State.sdiPort_setSdiPort (s : State) (p q : Fin 4) (x : SdiPort) :
    (s.setSdiPort p x).sdiPort q = if q = p then x else s.sdiPort q := by
  show (s.sdi.set p.val x p.isLt)[q.val] = _
  rw [Vector.getElem_set]
  by_cases h : q = p
  · simp [h]
  · rw [if_neg fun e => h (Fin.ext e.symm), if_neg h]
    rfl

theorem State.setSdiPort_self (s : State) (p : Fin 4) : s.setSdiPort p (s.sdiPort p) = s := by
  show { s with sdi := s.sdi.set p.val s.sdi[p.val] p.isLt } = s
  rw [Vector.set_getElem_self]

/-- A store to SDIi_DATA changes the port's channel and TIMEOUT only (61 R644, R645). -/
theorem State.storeCreg_sdiData (s : State) (p : Fin 4) (v : Word) : ∃ queue timeout,
    s.storeCreg (.sdiData p) v = s.setSdiPort p { s.sdiPort p with queue := queue, timeout := timeout } := by
  unfold State.storeCreg
  dsimp only
  split
  · exact ⟨_, _, (s.setSdiPort_self p).symm⟩
  split
  · split
    · exact ⟨_, (s.sdiPort p).timeout, rfl⟩
    · exact ⟨_, _, (s.setSdiPort_self p).symm⟩
  · exact ⟨_, _, rfl⟩

/-! ### What user mode may reach -/

/-- The control registers user mode may access are those of an SDI port that PRIV opens to it (10 R41; 61 R641). -/
theorem State.access_of_userMode {s : State} (hu : s.userMode = true) {r : CReg} (h : s.access r ≠ .na) :
    ∃ p, (r = .sdiData p ∨ r = .sdiReady p) ∧ (s.sdiPort p).priv = 1#2 := by
  rw [State.access, if_pos hu] at h
  have hport {p : Fin 4} {a : Access} (h : (if (s.sdiPort p).userAccess then a else .na) ≠ .na) :
      (s.sdiPort p).priv = 1#2 := by
    by_cases hp : (s.sdiPort p).userAccess = true
    · simpa [SdiPort.userAccess] using hp
    · rw [if_neg hp] at h
      exact absurd rfl h
  cases r with
  | sdiData p => exact ⟨p, .inl rfl, hport h⟩
  | sdiReady p => exact ⟨p, .inr rfl, hport h⟩
  | _ => exact absurd rfl h

/-- What a step from `s` that stays in user mode leaves as it was; PM_CR.IDLE may be set if `idle` holds. -/
structure UserKeeps (idle : Prop) (s t : State) : Prop where
  psw : t.psw = s.psw
  trap : t.trap = s.trap
  mmu : t.mmu = s.mmu
  brk : t.brk = s.brk
  enb : t.pm.enb = s.pm.enb
  event : t.pm.event = s.pm.event
  counters : s.pm.enb = false → t.pm.cnt = s.pm.cnt ∧ t.pm.pclk = s.pm.pclk
  idle : t.pm.idle = s.pm.idle ∨ t.pm.idle = true ∧ s.pm.enb = false ∧ idle
  closed : ∀ p, (s.sdiPort p).priv ≠ 1#2 → t.sdiPort p = s.sdiPort p
  priv : ∀ p, (t.sdiPort p).priv = (s.sdiPort p).priv
  resetOutput : ∀ p, (t.sdiPort p).resetOutput = (s.sdiPort p).resetOutput
  timeoutDisable : ∀ p, (t.sdiPort p).timeoutDisable = (s.sdiPort p).timeoutDisable
  count : ∀ p, (t.sdiPort p).count = (s.sdiPort p).count

variable {idle : Prop} {s u : State}

/-- The channel and TIMEOUT of a port open to user mode may change. -/
theorem UserKeeps.setSdiPort (h : UserKeeps idle s u) {p : Fin 4} (hp : (s.sdiPort p).priv = 1#2) (queue : List Word)
    (timeout : Word) : UserKeeps idle s (u.setSdiPort p { u.sdiPort p with queue := queue, timeout := timeout }) := by
  have hport (q : Fin 4) (f : SdiPort → Prop) (hf : f (u.sdiPort q))
      (hf' : q = p → f { u.sdiPort p with queue := queue, timeout := timeout }) :
      f ((u.setSdiPort p { u.sdiPort p with queue := queue, timeout := timeout }).sdiPort q) := by
    rw [State.sdiPort_setSdiPort]
    split
    · exact hf' ‹_›
    · exact hf
  exact { h with
    closed := fun q hq => hport q (· = s.sdiPort q) (h.closed q hq) fun e => absurd (e ▸ hp) hq
    priv := fun q => hport q (·.priv = (s.sdiPort q).priv) (h.priv q) fun e => e ▸ h.priv p
    resetOutput := fun q => hport q (·.resetOutput = (s.sdiPort q).resetOutput) (h.resetOutput q) fun e =>
      e ▸ h.resetOutput p
    timeoutDisable := fun q => hport q (·.timeoutDisable = (s.sdiPort q).timeoutDisable) (h.timeoutDisable q) fun e =>
      e ▸ h.timeoutDisable p
    count := fun q => hport q (·.count = (s.sdiPort q).count) (h.count q) fun e => e ▸ h.count p }

/-- An assignment that user mode permits keeps all this; entering idle mode asks for the idle macro. -/
theorem UserKeeps.applyWrite (h : UserKeeps idle s u) (hu : s.userMode = true) {words : Nat} {i : Instr} {w : Write}
    (hw : s.Permits words i w) (hidle : i = .goto 0#23 → words = 1 → idle) : UserKeeps idle s (applyWrite u w) := by
  cases w with
  | gpr r v =>
    show UserKeeps idle s (u.setGpr r v)
    unfold State.setGpr
    split
    · exact h
    · exact { h with }
  | psw v => cases hu.symm.trans hw.1
  | returnFromException => cases hu.symm.trans hw.1
  | creg r v =>
    obtain ⟨p, rfl | rfl, hp⟩ := State.access_of_userMode hu hw
    · obtain ⟨queue, timeout, heq⟩ := u.storeCreg_sdiData p v
      show UserKeeps idle s (u.storeCreg (.sdiData p) v)
      rw [heq]
      exact h.setSdiPort hp queue timeout
    · exact h
  | periph r v =>
    obtain ⟨intc, timers, dsu, heq⟩ := u.storePeriph_frame r v
    show UserKeeps idle s (u.storePeriph r v)
    rw [heq]
    exact { h with }
  | lfsrClock =>
    obtain ⟨p, hr | hr, -⟩ := State.access_of_userMode hu hw
    · cases hr
    · cases hr
  | sdiTake p =>
    obtain ⟨q, hr | hr, hq⟩ := State.access_of_userMode hu hw
    · cases hr
      exact h.setSdiPort hq _ _
    · cases hr
  | busError =>
    show UserKeeps idle s u.postBusError
    unfold State.postBusError
    split
    · exact h
    · exact { h with }
  | enterIdle =>
    obtain ⟨hi, hwords, henb⟩ := hw
    exact { h with idle := .inr ⟨rfl, henb, hidle hi hwords⟩ }
  | _ => exact { h with }

/-- The passing of time moves the counters only, and with counting off not even those (61 R680). -/
theorem UserKeeps.tick (h : UserKeeps idle s u) (hpm : u.pm = s.pm) (t : PmTally) (c : Bool) :
    UserKeeps idle s (u.tick t c) := by
  obtain ⟨henb, hidle, hevent⟩ := u.pm.advance_control t c u.oracle
  refine { h with enb := ?_, event := ?_, counters := fun hoff => ?_, idle := ?_ }
  · exact henb.trans h.enb
  · exact hevent.trans h.event
  · have hadvance := u.pm.advance_off t c u.oracle (hpm ▸ hoff)
    show (u.pm.advance t c u.oracle).cnt = _ ∧ (u.pm.advance t c u.oracle).pclk = _
    rw [hadvance, hpm]
    exact ⟨rfl, rfl⟩
  · exact .inl (hidle.trans (congrArg Perf.idle hpm))

theorem UserKeeps.refl (idle : Prop) (s : State) : UserKeeps idle s s where
  psw := rfl
  trap := rfl
  mmu := rfl
  brk := rfl
  enb := rfl
  event := rfl
  counters _ := ⟨rfl, rfl⟩
  idle := .inl rfl
  closed _ _ := rfl
  priv _ := rfl
  resetOutput _ := rfl
  timeoutDisable _ := rfl
  count _ := rfl

/-- The idle macro in a bundle of its own is the word of `goto` to itself (44 R468). -/
theorem fetched_idleMacro {s : State} {ws : List Word} {ops : List Instr} (h : s.Executes ws ops)
    (hi : .goto 0#23 ∈ ops) (hlength : ops.length = 1) : s.fetchBundle = .ok [0xB1000000#32] := by
  obtain ⟨j, rfl⟩ := List.length_eq_one_iff.mp hlength
  obtain rfl := List.mem_singleton.mp hi
  obtain ⟨⟨w, hlast, hstop⟩, hmap, -⟩ := decodeBundle_eq_ok.mp h.legal
  obtain ⟨x, rfl, hx⟩ := List.map_eq_singleton_iff.mp hmap
  obtain rfl : x = w := Option.some.inj hlast
  have hword := decodedWordIsTheEncoding x _ hx
  rw [hstop] at hword
  rw [h.fetched, ← hword]
  rfl

/-- Settles O58: an exception entry leaves user mode, and what else a step in user mode can come to keeps all this. -/
theorem userModeKeepsSystemRegisters : Obligations.UserModeKeepsSystemRegisters := by
  intro s t hs hstep ht
  have hkeeps : UserKeeps (s.boundary.fetchBundle = .ok [0xB1000000#32]) s.boundary t := by
    cases outcomes_of_step hstep with
    | debug => cases (State.enterDebug_userMode _).symm.trans ht
    | exception r => cases (State.takeException_userMode _ r).symm.trans ht
    | bundle ws ops es hexec hgrants =>
      revert ht
      refine State.finishBundle_induction (P := fun u => u.psw.getLsbD 0 = true → UserKeeps _ s.boundary u) hgrants
        (fun r ht => ?_) (fun p timeout haccess _ => ?_) (fun _ => ?_) fun u i hi w hw ih hu => ?_
      · cases (State.takeException_userMode _ r).symm.trans ht
      · obtain ⟨q, hq | hq, hpriv⟩ := State.access_of_userMode hs haccess
        · cases hq
          exact { ((UserKeeps.refl _ s.boundary).setSdiPort hpriv _ timeout).tick rfl {} true with }
        · cases hq
      · exact { (UserKeeps.refl _ s.boundary).tick rfl _ _ with }
      · have hpsw : (applyWrite u w).psw = u.psw := by
          refine applyWrite_psw u (fun v hv => ?_) fun hv => ?_
          · subst hv
            cases hs.symm.trans hw.1
          · subst hv
            cases hs.symm.trans hw.1
        exact (ih (hpsw ▸ hu)).applyWrite hs hw fun hgoto hlength => fetched_idleMacro hexec (hgoto ▸ hi) hlength
  exact ⟨hkeeps.psw, hkeeps.trap, hkeeps.mmu, hkeeps.brk, hkeeps.enb, hkeeps.event, hkeeps.counters, hkeeps.idle,
    fun p => ⟨hkeeps.closed p, hkeeps.priv p, hkeeps.resetOutput p, hkeeps.timeoutDisable p, hkeeps.count p⟩⟩

end Sys2Proof.Machine
end

section
/-! Where the TLB leads an address (20 R131 to R136): the four outcomes of a lookup, and what the predicates of 20 R135
say of them. -/

namespace Sys2Proof.Machine

/-! ### Lookup -/

theorem State.mem_tlbMatches {s : State} {v : Word} {k : Fin 64} : k ∈ s.tlbMatches v ↔ s.entryMaps v k := by
  simp [State.tlbMatches, State.entryMaps]

/-- How an address translates, by the entries that map it. -/
inductive State.Translates (s : State) (v : Word) : Lookup → Prop
  | direct (hoff : s.tlbEnable = false) : s.Translates v .direct
  | unmapped (hon : s.tlbEnable = true) (hnone : ∀ k, ¬ s.entryMaps v k) : s.Translates v .unmapped
  | mapped (hon : s.tlbEnable = true) (k : Fin 64) (hk : s.onlyMaps v k) : s.Translates v (.mapped k (s.mmu.utlb.get k))
  | multiple (hon : s.tlbEnable = true) (j k : Fin 64) (hne : j ≠ k) (hj : s.entryMaps v j) (hk : s.entryMaps v k) :
      s.Translates v .multiple

theorem State.translates_lookup (s : State) (v : Word) : s.Translates v (s.lookup v) := by
  unfold State.lookup
  by_cases hon : s.tlbEnable = true
  · rw [if_pos hon]
    have hmem {k : Fin 64} := s.mem_tlbMatches (v := v) (k := k)
    have hnodup : (s.tlbMatches v).Nodup := (List.nodup_finRange 64).filter _
    cases hl : s.tlbMatches v with
    | nil =>
      simp only [hl, List.not_mem_nil, false_iff] at hmem
      exact .unmapped hon fun _ => hmem
    | cons j rest =>
      rw [hl] at hmem hnodup
      cases rest with
      | nil => exact .mapped hon j fun k => by rw [← hmem, List.mem_singleton]
      | cons k rest =>
        have hne : j ≠ k := fun e => (List.nodup_cons.mp hnodup).1 (e ▸ List.mem_cons_self)
        exact .multiple hon j k hne (hmem.mp List.mem_cons_self)
          (hmem.mp (List.mem_cons_of_mem _ List.mem_cons_self))
  · rw [if_neg hon]
    exact .direct (Bool.eq_false_of_not_eq_true hon)

theorem State.lookup_eq_direct {s : State} (hoff : s.tlbEnable = false) (v : Word) : s.lookup v = .direct := by
  simp [State.lookup, hoff]

theorem State.lookup_eq_unmapped {s : State} {v : Word} (hon : s.tlbEnable = true) (hnone : ∀ k, ¬ s.entryMaps v k) :
    s.lookup v = .unmapped := by
  have h := s.translates_lookup v
  generalize s.lookup v = l at h
  cases h with
  | direct hoff => cases hon.symm.trans hoff
  | unmapped => rfl
  | mapped _ k hk => exact absurd ((hk k).mpr rfl) (hnone k)
  | multiple _ j k _ hj _ => exact absurd hj (hnone j)

theorem State.lookup_eq_mapped {s : State} {v : Word} {k : Fin 64} (hon : s.tlbEnable = true) (hk : s.onlyMaps v k) :
    s.lookup v = .mapped k (s.mmu.utlb.get k) := by
  have h := s.translates_lookup v
  generalize s.lookup v = l at h
  cases h with
  | direct hoff => cases hon.symm.trans hoff
  | unmapped _ hnone => exact absurd ((hk k).mpr rfl) (hnone k)
  | mapped _ j hj => rw [(hj k).mp ((hk k).mpr rfl)]
  | multiple _ i j hne hi hj => exact absurd (((hk i).mp hi).trans ((hk j).mp hj).symm) hne

theorem State.lookup_eq_multiple {s : State} {v : Word} (hon : s.tlbEnable = true)
    (h : ∃ j k, j ≠ k ∧ s.entryMaps v j ∧ s.entryMaps v k) : s.lookup v = .multiple := by
  obtain ⟨i, j, hne, hi, hj⟩ := h
  have h := s.translates_lookup v
  generalize s.lookup v = l at h
  cases h with
  | direct hoff => cases hon.symm.trans hoff
  | unmapped _ hnone => exact absurd hi (hnone i)
  | mapped _ k hk => exact absurd (((hk i).mp hi).trans ((hk j).mp hj).symm) hne
  | multiple => rfl

/-! ### Accesses the TLB turns away -/

/-- The one entry that maps `v` denies an access that needs permission bit `bit`; a write also needs DIRTY (20 R135). -/
def State.entryDenies (s : State) (v : Word) (bit : Nat) : Bool :=
  match s.lookup v with
  | .mapped _ e => !(s.prot e).getLsbD bit || (bit == 2 && !e.dirty)
  | _ => false

theorem State.execViolation_eq (s : State) (v : Word) : s.execViolation v = s.entryDenies v 0 := by
  unfold State.execViolation State.entryDenies
  cases s.lookup v <;> simp

theorem State.readViolation_eq (s : State) (v : Word) : s.readViolation v = s.entryDenies v 1 := by
  unfold State.readViolation State.entryDenies
  cases s.lookup v <;> simp

theorem State.writeViolation_eq (s : State) (v : Word) : s.writeViolation v = s.entryDenies v 2 := by
  unfold State.writeViolation State.entryDenies
  cases s.lookup v <;> simp

/-- The TLB turns an access to `v` that needs permission bit `bit` away. -/
def State.tlbFaults (s : State) (v : Word) (bit : Nat) : Bool :=
  s.noTranslation v || s.multiMapping v || s.entryDenies v bit

/-- An address has one translation when the TLB is off or one entry maps it. -/
theorem State.single_translation {s : State} {a pa : Word}
    (h : (s.tlbEnable = false ∧ pa = a)
      ∨ (s.tlbEnable = true ∧ ∃ k, s.onlyMaps a k ∧ pa = (s.mmu.utlb.get k).translate a)) :
    s.noTranslation a = false ∧ s.multiMapping a = false ∧ s.translate a = pa := by
  rcases h with ⟨hoff, rfl⟩ | ⟨hon, k, hk, rfl⟩
  · simp [State.noTranslation, State.multiMapping, State.translate, State.lookup_eq_direct hoff]
  · simp [State.noTranslation, State.multiMapping, State.translate, State.lookup_eq_mapped hon hk]

theorem State.leadsTo.single {s : State} {a pa : Word} {bit : Nat} (h : s.leadsTo a pa bit) :
    s.noTranslation a = false ∧ s.multiMapping a = false ∧ s.translate a = pa := by
  refine State.single_translation ?_
  rcases h with hoff | ⟨hon, k, hk, hpa, -⟩
  · exact .inl hoff
  · exact .inr ⟨hon, k, hk, hpa⟩

/-- An address that leads somewhere is not turned away. -/
theorem State.leadsTo.allowed {s : State} {a pa : Word} {bit : Nat} (h : s.leadsTo a pa bit) :
    s.tlbFaults a bit = false := by
  obtain ⟨hno, hmulti, -⟩ := h.single
  rw [State.tlbFaults, hno, hmulti, Bool.false_or, Bool.false_or]
  rcases h with ⟨hoff, -⟩ | ⟨hon, k, hk, -, hprot, hdirty⟩
  · simp [State.entryDenies, State.lookup_eq_direct hoff]
  · by_cases hbit : bit = 2
    · simp [State.entryDenies, State.lookup_eq_mapped hon hk, hprot, hdirty hbit]
    · simp [State.entryDenies, State.lookup_eq_mapped hon hk, hprot, hbit]

/-- An address that is not turned away leads to its translation. -/
theorem State.leadsTo_translate {s : State} {a : Word} {bit : Nat} (h : s.tlbFaults a bit = false) :
    s.leadsTo a (s.translate a) bit := by
  have hcases := s.translates_lookup a
  unfold State.tlbFaults State.noTranslation State.multiMapping State.entryDenies at h
  unfold State.translate
  generalize s.lookup a = l at hcases h
  cases hcases with
  | direct hoff => exact .inl ⟨hoff, rfl⟩
  | unmapped => simp at h
  | mapped hon k hk =>
    simp only [Bool.or_eq_false_iff, Bool.not_eq_false', Bool.and_eq_false_iff, beq_eq_false_iff_ne] at h
    obtain ⟨-, hprot, hdirty⟩ := h
    exact .inr ⟨hon, k, hk, rfl, hprot, fun hbit => hdirty.resolve_left fun hne => hne hbit⟩
  | multiple => simp at h

/-- The TLB refuses an access exactly when it turns it away. -/
theorem State.tlbRefuses.faults {s : State} {a : Word} {bit : Nat} (h : s.tlbRefuses a bit) :
    s.tlbFaults a bit = true := by
  obtain ⟨hon, hnone | hmulti | ⟨k, hk, hdenied⟩⟩ := h
  · simp [State.tlbFaults, State.noTranslation, State.lookup_eq_unmapped hon hnone]
  · simp [State.tlbFaults, State.multiMapping, State.lookup_eq_multiple hon hmulti]
  · rcases hdenied with hprot | ⟨rfl, hdirty⟩
    · simp [State.tlbFaults, State.entryDenies, State.lookup_eq_mapped hon hk, hprot]
    · simp [State.tlbFaults, State.entryDenies, State.lookup_eq_mapped hon hk, hdirty]

/-! ### The TLB_EXCAUSE record (10 R68) -/

theorem State.tlbRecord_spec (s : State) (v : Word) (bit : Nat) (spec write : Bool) :
    (s.tlbRecord v bit spec write).spec = spec := by
  unfold State.tlbRecord
  split <;> rfl

theorem State.tlbRecord_write (s : State) (v : Word) (bit : Nat) (spec write : Bool) :
    (s.tlbRecord v bit spec write).write = write := by
  unfold State.tlbRecord
  split <;> rfl

/-- The fields of TLB_EXCAUSE. -/
theorem TlbRecord.word_fields (r : TlbRecord) : r.word.extractLsb' 0 8 = r.index ∧ r.word.extractLsb' 8 8 = 0#8
    ∧ r.word.extractLsb' 16 2 = r.cause.code ∧ r.word.getLsbD 18 = r.spec ∧ r.word.getLsbD 19 = r.write
    ∧ r.word.getLsbD 20 = r.inUtlb ∧ r.word.extractLsb' 21 11 = 0#11 := by
  unfold TlbRecord.word
  refine ⟨?_, ?_, ?_, ?_, ?_, ?_, ?_⟩
  case refine_4 | refine_5 | refine_6 => simp [-Nat.reduceAdd, -BitVec.getLsbD_eq_getElem, BitVec.getLsbD_append]
  all_goals simp [-Nat.reduceAdd, BitVec.extractLsb'_append_eq_of_le, BitVec.extractLsb'_append_eq_of_add_le]

end Sys2Proof.Machine
end

section
/-! Instruction fetch (20 R137, R175; 30 R201): the words of a bundle, and the exception of a syllable that cannot be
fetched. -/

namespace Sys2Proof.Machine

/-! ### One syllable -/

/-- A fetch reads the words that `fetchYields` says. -/
theorem State.fetchPhysical_eq_some {s : State} {pa w : Word} : s.fetchPhysical pa = some w ↔ s.fetchYields pa w := by
  unfold State.fetchPhysical State.fetchYields
  cases hblock : inPeripheralBlock s.cfg pa with
  | true =>
    cases hreg : periphAt s.cfg pa with
    | none => simp
    | some r =>
      cases r with
      | rom n =>
        simp only [if_true, Option.some.injEq, Bool.true_eq_false, false_and, true_and, false_or, PeriphReg.rom.injEq,
          exists_eq_left']
        exact eq_comm
      | _ => simp
  | false => cases herr : busReadError s.cfg pa <;> simp [eq_comm]

/-- It is a bus error where `fetchFails` says. -/
theorem State.fetchPhysical_eq_none {s : State} {pa : Word} : s.fetchPhysical pa = none ↔ s.fetchFails pa := by
  unfold State.fetchPhysical State.fetchFails
  cases hblock : inPeripheralBlock s.cfg pa with
  | true =>
    cases hreg : periphAt s.cfg pa with
    | none => simp
    | some r => cases r <;> simp
  | false => cases herr : busReadError s.cfg pa <;> simp

theorem State.syllableWord_of_single {s : State} {a pa : Word}
    (h : s.noTranslation a = false ∧ s.multiMapping a = false ∧ s.translate a = pa) :
    s.syllableWord a = s.fetchPhysical pa := by
  obtain ⟨hno, hmulti, rfl⟩ := h
  simp [State.syllableWord, hno, hmulti]

/-- A syllable faults by ITLB if the TLB turns the fetch away, else by a bus error if it cannot be read. -/
theorem State.fetchFault_eq (s : State) (a : Word) : s.fetchFault a =
    if s.tlbFaults a 0 then some (s.raiseItlb a)
    else if s.syllableWord a = none then some { cause := .stbusIcError } else none := by
  rw [State.fetchFault, State.execViolation_eq]
  show (if s.tlbFaults a 0 then _ else _) = _
  cases s.syllableWord a <;> simp

theorem State.fetchFault_of_refused {s : State} {a : Word} (h : s.tlbFaults a 0 = true) :
    s.fetchFault a = some (s.raiseItlb a) := by
  rw [State.fetchFault_eq, if_pos h]

/-- A syllable that may be executed and read does not fault. -/
theorem State.fetchFault_of_leadsTo {s : State} {a pa w : Word} (h : s.leadsTo a pa 0)
    (hw : s.syllableWord a = some w) : s.fetchFault a = none := by
  simp [State.fetchFault_eq, h.allowed, hw]

theorem State.fetchFault_of_fetchFails {s : State} {a pa : Word} (h : s.leadsTo a pa 0) (hfail : s.fetchFails pa) :
    s.fetchFault a = some { cause := .stbusIcError } := by
  have hw := (State.syllableWord_of_single h.single).trans (State.fetchPhysical_eq_none.mpr hfail)
  simp [State.fetchFault_eq, h.allowed, hw]

/-- A bus error is met only where the address leads (20 R175). -/
theorem State.fetchFails_of_fetchFault {s : State} {a : Word} {q : Raised} (h : s.fetchFault a = some q)
    (hq : q.cause = .stbusIcError) : ∃ pa, s.leadsTo a pa 0 ∧ s.fetchFails pa := by
  rw [State.fetchFault_eq] at h
  split at h
  · cases h
    cases hq
  · rename_i hallowed
    have hleads := State.leadsTo_translate (Bool.eq_false_of_not_eq_true hallowed)
    refine ⟨_, hleads, ?_⟩
    split at h
    · rename_i hnone
      rw [State.syllableWord_of_single hleads.single] at hnone
      exact State.fetchPhysical_eq_none.mp hnone
    · cases h

/-! ### A bundle -/

/-- Settles O5: no syllable faults, and the words are those the fetch yields. -/
theorem fetchReadsTheBundleFromMemory : Obligations.FetchReadsTheBundleFromMemory := by
  intro s n w hpos hle hfetch hcontinue hlast
  obtain ⟨k, rfl⟩ := Nat.exists_eq_add_of_le' hpos
  have hword (j : Nat) (hj : j < k + 1) : s.syllableWord (s.pc + BitVec.ofNat 32 (4 * j)) = some (w j) := by
    obtain ⟨pa, hleads, hyields⟩ := hfetch j hj
    exact (State.syllableWord_of_single hleads.single).trans (State.fetchPhysical_eq_some.mpr hyields)
  have hfault (j : Nat) (hj : j < k + 1) : s.fetchFault (s.pc + BitVec.ofNat 32 (4 * j)) = none := by
    obtain ⟨pa, hleads, -⟩ := hfetch j hj
    exact State.fetchFault_of_leadsTo hleads (hword j hj)
  obtain ⟨m, hm⟩ := Nat.exists_eq_add_of_le hle
  have hstop : stopBit (w k) = true ∨ m = 0 := by
    rcases hlast with h | h
    · exact .inr (by omega)
    · exact .inl h
  have hcontinue' (j : Nat) (hj : j < k) : stopBit (w j) = false := hcontinue j (by omega)
  refine State.fetchBundle_ok.mpr ⟨?_, ?_⟩
  · have hsplit := s.fetchFaultsFrom_split k (m + 1) s.pc fun j hj =>
      ⟨w j, hword j (by omega), hcontinue' j hj⟩
    have hearlier : ((List.range k).filterMap fun j => s.fetchFault (s.pc + BitVec.ofNat 32 (4 * j))) = [] :=
      List.filterMap_eq_nil_iff.mpr fun j hj => hfault j (by have := List.mem_range.mp hj; omega)
    rw [State.fetchFaults, show 4 = k + (m + 1) by omega, hsplit, hearlier, List.nil_append, State.fetchFaultsFrom,
      hfault k (by omega), hword k (by omega)]
    rcases hstop with h | rfl
    · simp [h]
    · simp [State.fetchFaultsFrom]
  · rw [hm]
    exact s.wordsFrom_split w k m s.pc hword hcontinue' hstop

/-! ### Faults -/

theorem step_of_fetchFault {s : State} {r : Raised} (hd : s.boundary.debugAccepted = false)
    (hc : s.boundary.boundaryCauses = []) (hf : highestPriority s.boundary.fetchFaults = some r) :
    step s = .next (s.boundary.takeException r) := by
  refine (State.runBoundary_fetchError hd (State.fetchBundle_error.mpr hf)).trans ?_
  rw [hc]
  rfl

/-- The syllable before the `k`-th has a word without a stop bit, whether or not it may be executed. -/
theorem State.continuesAt.word {s : State} {a : Word} (h : s.continuesAt a) :
    ∃ w, s.syllableWord a = some w ∧ stopBit w = false := by
  obtain ⟨pa, w, hsingle, hyields, hstop⟩ := h
  refine ⟨w, ?_, hstop⟩
  exact (State.syllableWord_of_single (State.single_translation hsingle)).trans
    (State.fetchPhysical_eq_some.mpr hyields)

/-- A bus error of a syllable that the fetch reaches decides (60 R520). -/
theorem State.fetchFaults_busError {s : State} {k : Nat} (hk : k < 4)
    (hcontinue : ∀ j, j < k → s.continuesAt (s.pc + BitVec.ofNat 32 (4 * j)))
    (hfault : s.fetchFault (s.pc + BitVec.ofNat 32 (4 * k)) = some { cause := .stbusIcError }) :
    highestPriority s.fetchFaults = some { cause := .stbusIcError } := by
  obtain ⟨m, hm⟩ := Nat.exists_eq_add_of_lt hk
  have hsplit := s.fetchFaultsFrom_split k (m + 1) s.pc fun j hj => (hcontinue j hj).word
  obtain ⟨rest, hrest, -⟩ := State.fetchFaultsFrom_cons hfault m
  have hmem : { cause := .stbusIcError } ∈ s.fetchFaults := by
    rw [State.fetchFaults, show 4 = k + (m + 1) by omega, hsplit, hrest]
    exact List.mem_append_right _ List.mem_cons_self
  obtain ⟨r, hr⟩ := Option.ne_none_iff_exists'.mp (mt highestPriority_eq_none.mp (List.ne_nil_of_mem hmem))
  have hle : r.cause.number ≤ 0 := highestPriority_le hr _ hmem
  obtain ⟨j, -, hj⟩ := s.fetchFaultsFrom_mem (highestPriority_mem hr)
  rcases State.fetchFault_cases hj with rfl | rfl
  · exact absurd hle (Nat.not_succ_le_zero 3)
  · exact hr

/-- The ITLB of the first syllable at fault decides if no later syllable meets a bus error (60 R520). -/
theorem State.fetchFaults_itlb {s : State} {k : Nat} (hk : k < 4)
    (hcontinue : ∀ j, j < k → s.continuesAt (s.pc + BitVec.ofNat 32 (4 * j)))
    (hearlier : ∀ j, j < k → s.fetchFault (s.pc + BitVec.ofNat 32 (4 * j)) = none)
    (hfault : s.fetchFault (s.pc + BitVec.ofNat 32 (4 * k)) = some (s.raiseItlb (s.pc + BitVec.ofNat 32 (4 * k))))
    (hlater : ∀ j q, k < j → j < 4 → s.fetchFault (s.pc + BitVec.ofNat 32 (4 * j)) = some q →
      q.cause ≠ .stbusIcError) :
    highestPriority s.fetchFaults = some (s.raiseItlb (s.pc + BitVec.ofNat 32 (4 * k))) := by
  obtain ⟨m, hm⟩ := Nat.exists_eq_add_of_lt hk
  have hsplit := s.fetchFaultsFrom_split k (m + 1) s.pc fun j hj => (hcontinue j hj).word
  obtain ⟨rest, hrest, hmem⟩ := State.fetchFaultsFrom_cons hfault m
  have hnone : ((List.range k).filterMap fun j => s.fetchFault (s.pc + BitVec.ofNat 32 (4 * j))) = [] :=
    List.filterMap_eq_nil_iff.mpr fun j hj => hearlier j (List.mem_range.mp hj)
  have hfaults : s.fetchFaults = s.raiseItlb (s.pc + BitVec.ofNat 32 (4 * k)) :: rest := by
    rw [State.fetchFaults, show s.fetchFaultsFrom s.pc 4 = s.fetchFaultsFrom s.pc (k + (m + 1)) from
      congrArg _ (by omega), hsplit, hnone, List.nil_append, hrest]
  rw [hfaults]
  refine highestPriority_cons fun q hq => ?_
  obtain ⟨j, hj, hj', hqfault⟩ := hmem q hq
  rw [BitVec.add_assoc, ← BitVec.ofNat_add, ← Nat.mul_add] at hqfault
  have hne := hlater (k + j) q (by omega) (by omega) hqfault
  rcases State.fetchFault_cases hqfault with rfl | rfl
  · exact Nat.le_refl _
  · exact absurd rfl hne

/-- Settles O39: a bus error of a syllable the fetch reaches has the smallest number; without one the first ITLB
decides. -/
theorem fetchFaultsTrap : Obligations.FetchFaultsTrap := by
  intro s k hd hc hk hcontinue
  refine ⟨fun pa hleads hfail => ?_, fun hearlier hrefuses hlater => ?_⟩
  · refine ⟨_, step_of_fetchFault hd hc (State.fetchFaults_busError hk hcontinue ?_), ?_⟩
    · exact State.fetchFault_of_fetchFails hleads hfail
    · exact s.boundary.takeException_traps { cause := .stbusIcError } fun _ _ => rfl
  · have hitlb := State.fetchFaults_itlb hk hcontinue (fun j hj => ?_)
      (State.fetchFault_of_refused hrefuses.faults) fun j q hkj hj hq hcause => ?_
    · obtain ⟨-, -, -, hspec, hwrite, -, -⟩ := TlbRecord.word_fields
        (s.boundary.tlbRecord (s.boundary.pc + BitVec.ofNat 32 (4 * k)) 0 false false)
      rw [State.tlbRecord_spec] at hspec
      rw [State.tlbRecord_write] at hwrite
      refine ⟨_, step_of_fetchFault hd hc hitlb, ?_, ?_⟩
      · exact s.boundary.takeException_traps (s.boundary.raiseItlb _) fun h _ => absurd rfl h
      · rw [State.takeException_mmu]
        exact ⟨hspec, hwrite⟩
    · obtain ⟨pa, hleads⟩ := hearlier j hj
      obtain ⟨w, hw, -⟩ := (hcontinue j hj).word
      exact State.fetchFault_of_leadsTo hleads hw
    · obtain ⟨pa, hleads, hfail⟩ := State.fetchFails_of_fetchFault hq hcause
      exact hlater j pa hkj hj hleads hfail

end Sys2Proof.Machine
end

section
/-! Data accesses: the checks of loads and stores in their order (43 R440; 20 R120 to R129), said once for the normal
loads and the stores of every width. -/

namespace Sys2Proof.Machine

/-! ### The common shape of normal loads and stores -/

/-- The alignment and TLB checks of an access that needs permission bit `bit` (1 read, 2 write). -/
def State.accessCheck (s : State) (bit : Nat) (w : Width) (a : Word) : Option Raised :=
  if w.misaligned a then some { cause := .misalignedTrap, addr := a }
  else if s.tlbFaults a bit then some (s.raiseDtlb a bit false (bit == 2)) else none

/-- A normal load or a store of `w` at `a`: `creg` is what it does to a control register, `memory` what it does
elsewhere. -/
def State.accessEffect (s : State) (bit : Nat) (w : Width) (a : Word) (creg : CReg → Effect) (memory : Effect) :
    Effect :=
  if s.dbreakHit a then lsuRaise { cause := .dbreak, addr := a }
  else if isCRegSpace a then
    if w = .word then
      match s.cregCheck a, cregAt a with
      | none, some r => creg r
      | some r, _ => lsuRaise r
      | none, none => lsuRaise { cause := .cregNoMapping, addr := a }
    else lsuRaise { cause := .cregAccessViolation, addr := a }
  else
    match s.accessCheck bit w a with
    | some r => lsuRaise r
    | none => memory

/-- A normal load of `w` at `a` into `d`. -/
def State.loadBy (s : State) (w : Width) (f : Word → Word) (d : RegNum) (a : Word) : Effect :=
  s.accessEffect 1 w a (fun r => s.cregLoad r d) (lsuEffect (s.memLoadWrites w f d (s.translate a)))

/-- A store of the word `v` to control register `r`. -/
def State.cregStore (s : State) (r : CReg) (v : Word) : Effect :=
  { kind := .loadStore, stall := s.storeStall r, writes := [.creg r v] }

/-- A store of `w` of `v` at `a`. -/
def State.storeBy (s : State) (w : Width) (a v : Word) : Effect :=
  s.accessEffect 2 w a (fun r => s.cregStore r v) (lsuEffect (s.memStoreWrites w (s.translate a) v))

theorem State.readCheck_eq (s : State) (w : Width) (a : Word) : s.readCheck w a = s.accessCheck 1 w a := by
  rw [State.readCheck, State.readViolation_eq]
  rfl

theorem State.writeCheck_eq (s : State) (w : Width) (a : Word) : s.writeCheck w a = s.accessCheck 2 w a := by
  rw [State.writeCheck, State.writeViolation_eq]
  rfl

theorem State.loadWordEffect_eq (s : State) (d : RegNum) (a : Word) :
    s.loadWordEffect d a = s.loadBy .word extendWord d a := by
  simp only [State.loadWordEffect, State.loadBy, State.accessEffect, State.readCheck_eq]
  cases s.cregCheck a <;> cases cregAt a <;> rfl

theorem State.storeWordEffect_eq (s : State) (a v : Word) : s.storeWordEffect a v = s.storeBy .word a v := by
  simp only [State.storeWordEffect, State.storeBy, State.accessEffect, State.writeCheck_eq]
  cases s.cregCheck a <;> cases cregAt a <;> rfl

theorem State.loadPartEffect_eq (s : State) {w : Width} (hw : w ≠ .word) (f : Word → Word) (d : RegNum) (a : Word) :
    s.loadPartEffect w f d a = s.loadBy w f d a := by
  simp only [State.loadPartEffect, State.loadBy, State.accessEffect, State.readCheck_eq, if_neg hw] <;> rfl

theorem State.storePartEffect_eq (s : State) {w : Width} (hw : w ≠ .word) (a v : Word) :
    s.storePartEffect w a v = s.storeBy w a v := by
  simp only [State.storePartEffect, State.storeBy, State.accessEffect, State.writeCheck_eq, if_neg hw] <;> rfl

/-! ### The operations -/

theorem exec_ldw (d s1 : RegNum) (i : BitVec 9) (s : State) :
    exec (.ldw d s1 i) s = issue (s.loadBy .word extendWord d (s.gpr s1 + s.imm i)) s := by
  rw [← State.ea_eq, ← State.loadWordEffect_eq]
  rfl

theorem exec_ldh (d s1 : RegNum) (i : BitVec 9) (s : State) :
    exec (.ldh d s1 i) s = issue (s.loadBy .half extendHalf d (s.gpr s1 + s.imm i)) s := by
  rw [← State.ea_eq, ← State.loadPartEffect_eq s (by decide)]
  rfl

theorem exec_ldhu (d s1 : RegNum) (i : BitVec 9) (s : State) :
    exec (.ldhu d s1 i) s = issue (s.loadBy .half extendHalfU d (s.gpr s1 + s.imm i)) s := by
  rw [← State.ea_eq, ← State.loadPartEffect_eq s (by decide)]
  rfl

theorem exec_ldb (d s1 : RegNum) (i : BitVec 9) (s : State) :
    exec (.ldb d s1 i) s = issue (s.loadBy .byte extendByte d (s.gpr s1 + s.imm i)) s := by
  rw [← State.ea_eq, ← State.loadPartEffect_eq s (by decide)]
  rfl

theorem exec_ldbu (d s1 : RegNum) (i : BitVec 9) (s : State) :
    exec (.ldbu d s1 i) s = issue (s.loadBy .byte extendByteU d (s.gpr s1 + s.imm i)) s := by
  rw [← State.ea_eq, ← State.loadPartEffect_eq s (by decide)]
  rfl

theorem exec_stw (s1 : RegNum) (i : BitVec 9) (s2 : RegNum) (s : State) :
    exec (.stw s1 i s2) s = issue (s.storeBy .word (s.gpr s1 + s.imm i) (s.gpr s2)) s := by
  rw [← State.ea_eq, ← State.storeWordEffect_eq]
  rfl

theorem exec_sth (s1 : RegNum) (i : BitVec 9) (s2 : RegNum) (s : State) :
    exec (.sth s1 i s2) s = issue (s.storeBy .half (s.gpr s1 + s.imm i) (s.gpr s2)) s := by
  rw [← State.ea_eq, ← State.storePartEffect_eq s (by decide)]
  rfl

theorem exec_stb (s1 : RegNum) (i : BitVec 9) (s2 : RegNum) (s : State) :
    exec (.stb s1 i s2) s = issue (s.storeBy .byte (s.gpr s1 + s.imm i) (s.gpr s2)) s := by
  rw [← State.ea_eq, ← State.storePartEffect_eq s (by decide)]
  rfl

/-! ### What an access comes to -/

section Access

variable {s : State} {bit : Nat} {w : Width} {a : Word} {creg : CReg → Effect} {memory : Effect}

theorem State.accessEffect_dbreak (h : s.dbreakHit a = true) :
    s.accessEffect bit w a creg memory = lsuRaise { cause := .dbreak, addr := a } := by
  simp [State.accessEffect, h]

theorem State.accessEffect_part (hb : s.dbreakHit a = false) (hc : isCRegSpace a = true) (hw : w ≠ .word) :
    s.accessEffect bit w a creg memory = lsuRaise { cause := .cregAccessViolation, addr := a } := by
  simp [State.accessEffect, hb, hc, hw]

theorem State.accessEffect_cregCheck (hb : s.dbreakHit a = false) (hc : isCRegSpace a = true) {r : Raised}
    (hr : s.cregCheck a = some r) : s.accessEffect bit .word a creg memory = lsuRaise r := by
  simp [State.accessEffect, hb, hc, hr]

theorem State.accessEffect_creg (hb : s.dbreakHit a = false) (hc : isCRegSpace a = true) {r : CReg}
    (hr : cregAt a = some r) (haccess : s.access r ≠ .na) : s.accessEffect bit .word a creg memory = creg r := by
  simp [State.accessEffect, hb, hc, State.cregCheck, hr, haccess]

theorem State.accessEffect_accessCheck (hb : s.dbreakHit a = false) (hc : isCRegSpace a = false) {r : Raised}
    (hr : s.accessCheck bit w a = some r) : s.accessEffect bit w a creg memory = lsuRaise r := by
  simp [State.accessEffect, hb, hc, hr]

theorem State.accessEffect_memory {pa : Word} (hb : s.dbreakHit a = false) (hc : isCRegSpace a = false)
    (hm : w.misaligned a = false) (h : s.leadsTo a pa bit) : s.accessEffect bit w a creg memory = memory := by
  simp [State.accessEffect, hb, hc, State.accessCheck, hm, h.allowed]

theorem State.accessCheck_misaligned (hm : w.misaligned a = true) :
    s.accessCheck bit w a = some { cause := .misalignedTrap, addr := a } := by
  simp [State.accessCheck, hm]

theorem State.accessCheck_refused (hm : w.misaligned a = false) (h : s.tlbRefuses a bit) :
    s.accessCheck bit w a = some (s.raiseDtlb a bit false (bit == 2)) := by
  simp [State.accessCheck, hm, h.faults]

/-! ### Where it traps -/

/-- In user mode the registers that PRIV does not open are a violation (20 R128; 61 R641). -/
theorem State.cregCheck_violation {r : CReg} (hr : cregAt a = some r) (hu : s.userMode = true)
    (hpriv : ∀ p, (r = .sdiData p ∨ r = .sdiReady p) → (s.sdiPort p).priv ≠ 1#2) :
    s.cregCheck a = some { cause := .cregAccessViolation, addr := a } := by
  have hna : s.access r = .na := by
    by_contra h
    obtain ⟨p, hp, hp'⟩ := State.access_of_userMode hu h
    exact hpriv p hp hp'
  simp [State.cregCheck, hr, hna]

/-- An access traps as its checks say, in their order (43 R440). -/
theorem accessTraps_of_access {i : Instr} (hexec : exec i s = issue (s.accessEffect bit w a creg memory) s)
    (halone : s.alone) {word : Bool} (hword : word = decide (w = .word)) : AccessTraps i s w a bit word := by
  have htraps {r : Raised} (he : s.accessEffect bit w a creg memory = lsuRaise r)
      (htlb : r.cause ≠ .itlb → r.cause ≠ .dtlb → r.tlb = none) : TrapsOn i s r.cause r.exceptAddress :=
    trapsOn_of_raised (e := lsuRaise r) (he ▸ hexec) halone rfl htlb
  have hisword (h : word = true) : w = .word := of_decide_eq_true (hword ▸ h)
  refine ⟨fun hb => ?_, fun hb hc hpart => ?_, fun hb hc h hr => ?_, fun r hb hc h hr hu hpriv => ?_,
    fun hb hc hm => ?_, fun hb hc hm h => ?_⟩
  · exact htraps (State.accessEffect_dbreak hb) fun _ _ => rfl
  · exact htraps (State.accessEffect_part hb hc (of_decide_eq_false (hword ▸ hpart))) fun _ _ => rfl
  · obtain rfl := hisword h
    have hcheck : s.cregCheck a = some { cause := .cregNoMapping, addr := a } := by simp [State.cregCheck, hr]
    exact htraps (State.accessEffect_cregCheck hb hc hcheck) fun _ _ => rfl
  · obtain rfl := hisword h
    exact htraps (State.accessEffect_cregCheck hb hc (State.cregCheck_violation hr hu hpriv)) fun _ _ => rfl
  · exact htraps (State.accessEffect_accessCheck hb hc (State.accessCheck_misaligned hm)) fun _ _ => rfl
  · exact htraps (State.accessEffect_accessCheck hb hc (State.accessCheck_refused hm h)) fun _ h => absurd rfl h

end Access

/-- Settles O26: the eight operations make accesses of the common shape. -/
theorem loadAndStoreTraps : Obligations.LoadAndStoreTraps := by
  intro s r s1 i halone
  exact ⟨accessTraps_of_access (exec_ldw r s1 i s) halone rfl, accessTraps_of_access (exec_ldh r s1 i s) halone rfl,
    accessTraps_of_access (exec_ldhu r s1 i s) halone rfl, accessTraps_of_access (exec_ldb r s1 i s) halone rfl,
    accessTraps_of_access (exec_ldbu r s1 i s) halone rfl, accessTraps_of_access (exec_stw s1 i r s) halone rfl,
    accessTraps_of_access (exec_sth s1 i r s) halone rfl, accessTraps_of_access (exec_stb s1 i r s) halone rfl⟩

end Sys2Proof.Machine
end

section
/-! The results of loads, dismissible loads and stores in ordinary memory, the record of a DTLB exception, and the
operations that only advance (43 R411 to R437; 20 R120 to R127, R136). -/

namespace Sys2Proof.Machine

/-! ### Normal loads (43 R411 to R415) -/

theorem register_zext8 (v : Word) : register (zext8 v) = (v.setWidth 8).setWidth 32 := by
  rw [zext8, register_natCast, BitVec.ofNat_toNat]

theorem extendHalf_eq : extendHalf = fun v : Word => (v.setWidth 16).signExtend 32 := funext register_sext16

theorem extendHalfU_eq : extendHalfU = fun v : Word => (v.setWidth 16).setWidth 32 := funext register_zext16

theorem extendByte_eq : extendByte = fun v : Word => (v.setWidth 8).signExtend 32 := rfl

theorem extendByteU_eq : extendByteU = fun v : Word => (v.setWidth 8).setWidth 32 := funext register_zext8

/-- Ordinary memory that answers (20 R121). -/
theorem State.memLoadWrites_memory {s : State} {pa : Word} (w : Width) (f : Word → Word) (d : RegNum)
    (hp : inPeripheralBlock s.cfg pa = false) (he : busReadError s.cfg pa = false) :
    s.memLoadWrites w f d pa = [.gpr d (f (s.mem.load s.cfg.bigEndian pa w))] := by
  simp [State.memLoadWrites, State.busRead, hp, he]

/-- A normal load of `w` from where its address leads. -/
theorem State.loadBy_reaches {s : State} {w : Width} {a pa : Word} (h : s.reaches w a pa 1) (f : Word → Word)
    (d : RegNum) : s.loadBy w f d a = lsuEffect (s.memLoadWrites w f d pa) := by
  obtain ⟨-, -, rfl⟩ := h.leads.single
  exact State.accessEffect_memory h.noBreak h.notCreg h.aligned h.leads

theorem loadForm_of_exec {opc : BitVec 5} {op : RegNum → RegNum → BitVec 9 → Instr} {w : Width} {f g : Word → Word}
    (hop : loadOp opc.toNat = some op)
    (hexec : ∀ d s1 i s, exec (op d s1 i) s = issue (s.loadBy w f d (s.gpr s1 + s.imm i)) s) (hf : f = g) :
    LoadForm opc op w g where
  encoding := decodeSyllable_load hop
  result s d s1 i pa halone h he := by
    refine completes_writesGpr (kind := .loadStore) ?_ halone
    rw [hexec, State.loadBy_reaches h, State.memLoadWrites_memory w f d h.notPeripheral he, hf]
    rfl

/-- Settles O23. -/
theorem loadResults : Obligations.LoadResults :=
  ⟨loadForm_of_exec rfl exec_ldw rfl, loadForm_of_exec rfl exec_ldh extendHalf_eq,
    loadForm_of_exec rfl exec_ldhu extendHalfU_eq, loadForm_of_exec rfl exec_ldb extendByte_eq,
    loadForm_of_exec rfl exec_ldbu extendByteU_eq⟩

/-! ### Stores (43 R425 to R427) -/

theorem State.memStoreWrites_memory {s : State} {pa : Word} (w : Width) (v : Word)
    (hp : inPeripheralBlock s.cfg pa = false) (he : busWriteError s.cfg pa = false) :
    s.memStoreWrites w pa v = [.mem pa w v] := by
  simp [State.memStoreWrites, hp, he]

theorem State.storeBy_reaches {s : State} {w : Width} {a pa : Word} (h : s.reaches w a pa 2) (v : Word) :
    s.storeBy w a v = lsuEffect (s.memStoreWrites w pa v) := by
  obtain ⟨-, -, rfl⟩ := h.leads.single
  exact State.accessEffect_memory h.noBreak h.notCreg h.aligned h.leads

theorem OnlyAdvances.store {s t : State} (h : OnlyAdvances s t) (hwf : s.mem.wf = true) (hmem : t.mem = s.mem)
    (pa : Word) (w : Width) (v : Word) :
    StoresTo pa w v s { t with mem := t.mem.store t.cfg.bigEndian pa w v } where
  bytes k hk := by
    rw [hmem, h.system.cfg]
    exact Memory.read_store_byteAddr hwf _ pa v hk
  others a ha := by
    rw [hmem]
    exact Memory.read_store_other _ _ _ _ _ ha
  canonical := by
    rw [hmem]
    exact Memory.wf_store hwf _ _ _ _
  gprs := h.gprs
  branches := h.branches
  pc := h.pc
  system := { h.system with }

theorem storeForm_of_exec {opc : BitVec 5} {op : RegNum → BitVec 9 → RegNum → Instr} {w : Width}
    (hload : loadOp opc.toNat = none) (hop : storeOp opc.toNat = some op)
    (hexec : ∀ s1 i s2 s, exec (op s1 i s2) s = issue (s.storeBy w (s.gpr s1 + s.imm i) (s.gpr s2)) s) :
    StoreForm opc op w where
  encoding := decodeSyllable_store hload hop
  result s s1 i s2 pa halone hwf h he := by
    refine completes_of_issue (hexec s1 i s2 s) halone ?_ ?_ ?_
    · rw [State.storeBy_reaches h]
      rfl
    · rw [State.storeBy_reaches h]
      rfl
    · rw [State.storeBy_reaches h, State.memStoreWrites_memory w _ h.notPeripheral he]
      exact (s.advance_onlyAdvances _).store hwf rfl pa w _

/-- Settles O25. -/
theorem storeResults : Obligations.StoreResults :=
  ⟨storeForm_of_exec rfl rfl exec_stw, storeForm_of_exec rfl rfl exec_sth, storeForm_of_exec rfl rfl exec_stb⟩

/-! ### The record of a DTLB exception (20 R136) -/

theorem State.tlbRecord_unmapped {s : State} {a : Word} (h : s.lookup a = .unmapped) (bit : Nat) (spec write : Bool) :
    (s.tlbRecord a bit spec write).cause = .noMapping ∧ (s.tlbRecord a bit spec write).inUtlb = false := by
  simp [State.tlbRecord, h]

theorem State.tlbRecord_multiple {s : State} {a : Word} (h : s.lookup a = .multiple) (bit : Nat) (spec write : Bool) :
    (s.tlbRecord a bit spec write).cause = .multiMapping := by
  simp [State.tlbRecord, h]

theorem State.tlbRecord_mapped {s : State} {a : Word} {k : Fin 64} {e : UtlbEntry} (h : s.lookup a = .mapped k e)
    (bit : Nat) (spec write : Bool) : s.tlbRecord a bit spec write =
      { cause := if (s.prot e).getLsbD bit then .writeToClean else .protViolation
        spec := spec, write := write, inUtlb := true, index := BitVec.ofNat 8 k.val } := by
  simp [State.tlbRecord, h]

/-- An operation that throws DTLB, alone in its bundle, takes it and records it. -/
theorem completes_dtlb {i : Instr} {s : State} {e : Effect} {a : Word} {bit : Nat} {spec write : Bool}
    (hexec : exec i s = issue e s) (he : e = lsuRaise (s.raiseDtlb a bit spec write)) (halone : s.alone) :
    Completes i s fun t => Traps .dtlb a s t ∧ t.mmu.tlbExcause = (s.tlbRecord a bit spec write).word := by
  obtain ⟨hissue, hpending⟩ := halone
  refine ⟨s.takeException (s.raiseDtlb a bit spec write), ?_, ?_, ?_⟩
  · rw [hexec, he, issue_last _ s hissue hpending]
    exact congrArg _ (s.finishBundle_raise _ _ rfl)
  · exact s.takeException_traps (s.raiseDtlb a bit spec write) fun _ h => absurd rfl h
  · rw [State.takeException_mmu]
    rfl

/-- A word load or store that the TLB refuses throws DTLB. -/
theorem exec_wordAccess_refused {s : State} (r s1 : RegNum) (i : BitVec 9) (store : Bool)
    (hb : s.dbreakHit (s.gpr s1 + s.imm i) = false) (hc : isCRegSpace (s.gpr s1 + s.imm i) = false)
    (hm : Width.misaligned .word (s.gpr s1 + s.imm i) = false)
    (h : s.tlbRefuses (s.gpr s1 + s.imm i) (if store then 2 else 1)) :
    ∃ e, exec (if store then .stw s1 i r else .ldw r s1 i) s = issue e s
      ∧ e = lsuRaise (s.raiseDtlb (s.gpr s1 + s.imm i) (if store then 2 else 1) false store) := by
  have hcheck := State.accessCheck_refused hm h
  cases store with
  | true => exact ⟨_, exec_stw s1 i r s, State.accessEffect_accessCheck hb hc hcheck⟩
  | false => exact ⟨_, exec_ldw r s1 i s, State.accessEffect_accessCheck hb hc hcheck⟩

/-- Settles O27: the record of the exception follows the lookup, and TLB_EXCAUSE its fields. -/
theorem dtlbExceptionsAreRecorded : Obligations.DtlbExceptionsAreRecorded := by
  intro s r s1 i store halone hb hc hm hrefuses
  have hon : s.tlbEnable = true := hrefuses.1
  obtain ⟨e, hexec, he⟩ := exec_wordAccess_refused r s1 i store hb hc hm hrefuses
  obtain ⟨t, ht, htraps, hrecord⟩ := completes_dtlb hexec he halone
  refine ⟨t, ht, htraps, ?_⟩
  rw [hrecord]
  generalize hbit : (if store then 2 else 1) = bit
  obtain ⟨hindex, hzero, hcause, hspec, hwrite, hutlb, hhigh⟩ :=
    TlbRecord.word_fields (s.tlbRecord (s.gpr s1 + s.imm i) bit false store)
  rw [hindex, hzero, hcause, hspec, hwrite, hutlb, hhigh]
  refine ⟨s.tlbRecord_spec .., s.tlbRecord_write .., rfl, rfl, fun hnone => ?_, fun hmulti => ?_, fun k hk => ?_⟩
  · obtain ⟨hno, hin⟩ := State.tlbRecord_unmapped (State.lookup_eq_unmapped hon hnone) bit false store
    exact ⟨by rw [hno]; rfl, hin⟩
  · rw [State.tlbRecord_multiple (State.lookup_eq_multiple hon hmulti)]
    rfl
  · rw [State.tlbRecord_mapped (State.lookup_eq_mapped hon hk)]
    refine ⟨rfl, ?_, apply_ite _ _ _ _⟩
    exact (BitVec.toNat_ofNat _ _).trans (Nat.mod_eq_of_lt (by omega))

/-! ### Operations that only advance -/

/-- An operation that throws, waits for and assigns nothing only moves on to the next bundle. -/
theorem completes_onlyAdvances {i : Instr} {s : State} {kind : OpKind} (hexec : exec i s = issue { kind := kind } s)
    (halone : s.alone) : Completes i s (OnlyAdvances s) :=
  completes_of_issue hexec halone rfl rfl (s.advance_onlyAdvances _)

theorem State.privileged_supervisor {s : State} (hu : s.userMode = false) (e : Effect) : s.privileged e = e := by
  simp [State.privileged, hu]

/-- Settles O29. -/
theorem operationsThatOnlyAdvance : Obligations.OperationsThatOnlyAdvance := by
  intro s s1 i v halone
  have hlsu {j : Instr} (hexec : exec j s = issue (lsuEffect []) s) : Completes j s (OnlyAdvances s) :=
    completes_onlyAdvances hexec halone
  refine ⟨hlsu rfl, hlsu rfl, hlsu rfl, completes_onlyAdvances (kind := .longImmediate) rfl halone,
    completes_onlyAdvances (kind := .longImmediate) rfl halone, fun hu => ⟨?_, ?_⟩⟩
  · exact completes_onlyAdvances (kind := .plain) (congrArg (issue · s) (State.privileged_supervisor hu {})) halone
  · exact hlsu (congrArg (issue · s) (State.privileged_supervisor hu (lsuEffect [])))

/-! ### prgadd (43 R431) -/

theorem exec_prgadd (s1 : RegNum) (i : BitVec 9) (s : State) :
    exec (.prgadd s1 i) s = issue (s.purgeEffect (s.gpr s1 + s.imm i)) s := by
  rw [← State.ea_eq]
  rfl

/-- What prgadd and the dismissible loads report: two mappings, and with TLB_DYNAMIC none. -/
theorem State.reported_of_mappings {s : State} {a : Word} (hon : s.tlbEnable = true)
    (h : (∃ j k, j ≠ k ∧ s.entryMaps a j ∧ s.entryMaps a k) ∨ s.tlbDynamic = true ∧ ∀ k, ¬ s.entryMaps a k) :
    s.multiMapping a = true ∨ s.tlbDynamic = true ∧ s.noTranslation a = true := by
  rcases h with hmulti | ⟨hdynamic, hnone⟩
  · exact .inl (beq_iff_eq.mpr (State.lookup_eq_multiple hon hmulti))
  · exact .inr ⟨hdynamic, beq_iff_eq.mpr (State.lookup_eq_unmapped hon hnone)⟩

/-- Two mappings, and with TLB_DYNAMIC none, are an exception outside control register space (20 R127). -/
theorem State.purgeEffect_raises {s : State} {a : Word} (hc : isCRegSpace a = false)
    (h : s.multiMapping a = true ∨ s.tlbDynamic = true ∧ s.noTranslation a = true) :
    s.purgeEffect a = lsuRaise (s.raiseDtlb a 1 true false) := by
  have hcond : (s.multiMapping a || (s.tlbDynamic && s.noTranslation a)) = true := by
    simpa using h
  simp only [State.purgeEffect, State.purgeCheck, hc, hcond, Bool.false_eq_true, if_true, if_false]

theorem State.purgeEffect_passes {s : State} {a : Word}
    (h : isCRegSpace a = true ∨ s.multiMapping a = false ∧ (s.tlbDynamic = true → s.noTranslation a = false)) :
    s.purgeEffect a = lsuEffect [] := by
  rcases h with hc | ⟨hmulti, hno⟩
  · simp [State.purgeEffect, State.purgeCheck, hc]
  · have hcond : (s.multiMapping a || (s.tlbDynamic && s.noTranslation a)) = false := by
      cases hd : s.tlbDynamic <;> simp [hmulti, hno, hd]
    simp only [State.purgeEffect, State.purgeCheck, hcond, Bool.false_eq_true, if_false, ite_self]

/-- prgadd finds nothing to report with the TLB off, with one mapping, or with none and TLB_DYNAMIC clear. -/
theorem State.purge_passes {s : State} {a : Word}
    (h : s.tlbEnable = false ∨ (∃ k, s.onlyMaps a k) ∨ s.tlbDynamic = false ∧ ∀ k, ¬ s.entryMaps a k) :
    s.multiMapping a = false ∧ (s.tlbDynamic = true → s.noTranslation a = false) := by
  unfold State.multiMapping State.noTranslation
  have hlookup := s.translates_lookup a
  generalize s.lookup a = l at hlookup
  cases hlookup with
  | direct => exact ⟨rfl, fun _ => rfl⟩
  | mapped => exact ⟨rfl, fun _ => rfl⟩
  | unmapped hon hnone =>
    refine ⟨rfl, fun hd => ?_⟩
    rcases h with hoff | ⟨k, hk⟩ | ⟨hstatic, -⟩
    · cases hon.symm.trans hoff
    · exact absurd ((hk k).mpr rfl) (hnone k)
    · cases hd.symm.trans hstatic
  | multiple hon m n hne hm hn =>
    rcases h with hoff | ⟨k, hk⟩ | ⟨-, hnone⟩
    · cases hon.symm.trans hoff
    · exact absurd (((hk m).mp hm).trans ((hk n).mp hn).symm) hne
    · exact absurd hm (hnone m)

/-- Settles O28. -/
theorem purgeAddressTrapsOrAdvances : Obligations.PurgeAddressTrapsOrAdvances := by
  intro s s1 i halone
  refine ⟨fun hc hon h => ?_, fun h => ?_⟩
  · have hraises := State.purgeEffect_raises hc (State.reported_of_mappings hon h)
    obtain ⟨t, ht, htraps, hrecord⟩ := completes_dtlb (exec_prgadd s1 i s) hraises halone
    obtain ⟨-, -, -, hspec, hwrite, -, -⟩ := TlbRecord.word_fields (s.tlbRecord (s.gpr s1 + s.imm i) 1 true false)
    refine ⟨t, ht, htraps, ?_⟩
    rw [hrecord, hspec, hwrite]
    exact ⟨s.tlbRecord_spec .., s.tlbRecord_write ..⟩
  · have hpasses : s.purgeEffect (s.gpr s1 + s.imm i) = lsuEffect [] :=
      State.purgeEffect_passes (h.imp_right State.purge_passes)
    exact completes_onlyAdvances ((exec_prgadd s1 i s).trans (congrArg (issue · s) hpasses)) halone

end Sys2Proof.Machine
end

section
/-! Dismissible loads: where they read, where they return 0 and where they trap (43 R416 to R421; 20 R122, R123,
R180). -/

namespace Sys2Proof.Machine

/-- A dismissible load of `w` at the effective address, in terms of the operation's operands. -/
def State.dismissibleBy (s : State) (w : Width) (f : Word → Word) (d s1 : RegNum) (i : BitVec 9) : Effect :=
  s.loadDismissibleEffect w f d (s.gpr s1 + s.imm i)

theorem exec_ldwD (d s1 : RegNum) (i : BitVec 9) (s : State) :
    exec (.ldwD d s1 i) s = issue (s.dismissibleBy .word extendWord d s1 i) s := by
  rw [State.dismissibleBy, ← State.ea_eq]
  rfl

theorem exec_ldhD (d s1 : RegNum) (i : BitVec 9) (s : State) :
    exec (.ldhD d s1 i) s = issue (s.dismissibleBy .half extendHalf d s1 i) s := by
  rw [State.dismissibleBy, ← State.ea_eq]
  rfl

theorem exec_ldhuD (d s1 : RegNum) (i : BitVec 9) (s : State) :
    exec (.ldhuD d s1 i) s = issue (s.dismissibleBy .half extendHalfU d s1 i) s := by
  rw [State.dismissibleBy, ← State.ea_eq]
  rfl

theorem exec_ldbD (d s1 : RegNum) (i : BitVec 9) (s : State) :
    exec (.ldbD d s1 i) s = issue (s.dismissibleBy .byte extendByte d s1 i) s := by
  rw [State.dismissibleBy, ← State.ea_eq]
  rfl

theorem exec_ldbuD (d s1 : RegNum) (i : BitVec 9) (s : State) :
    exec (.ldbuD d s1 i) s = issue (s.dismissibleBy .byte extendByteU d s1 i) s := by
  rw [State.dismissibleBy, ← State.ea_eq]
  rfl

/-! ### What the load comes to -/

section Effect

variable {s : State} {w : Width} {a : Word}

theorem State.loadDismissibleEffect_dbreak (f : Word → Word) (d : RegNum) (h : s.dbreakHit a = true) :
    s.loadDismissibleEffect w f d a = lsuRaise { cause := .dbreak, addr := a } := by
  simp [State.loadDismissibleEffect, h]

theorem State.loadDismissibleEffect_creg (f : Word → Word) (d : RegNum) (hb : s.dbreakHit a = false)
    (hc : isCRegSpace a = true) : s.loadDismissibleEffect w f d a = lsuEffect [.gpr d 0#32] := by
  simp [State.loadDismissibleEffect, hb, hc]

theorem State.loadDismissibleEffect_raises (f : Word → Word) (d : RegNum) {r : Raised} (hb : s.dbreakHit a = false)
    (hc : isCRegSpace a = false) (hr : s.disReadCheck w a = some r) :
    s.loadDismissibleEffect w f d a = lsuRaise r := by
  simp [State.loadDismissibleEffect, hb, hc, hr]

theorem State.loadDismissibleEffect_reads {pa : Word} (f : Word → Word) (d : RegNum) (hb : s.dbreakHit a = false)
    (hc : isCRegSpace a = false) (hm : w.misaligned a = false) (h : s.leadsTo a pa 1) (hscu : s.scuHit pa = true) :
    s.loadDismissibleEffect w f d a = lsuEffect (s.memLoadWrites w f d pa) := by
  obtain ⟨hno, hmulti, rfl⟩ := h.single
  have hallowed := h.allowed
  rw [State.tlbFaults, Bool.or_eq_false_iff] at hallowed
  obtain ⟨-, hdenies⟩ := hallowed
  simp [State.loadDismissibleEffect, hb, hc, State.disReadCheck, State.disReadPerformed, hm, hno, hmulti, hscu,
    State.readViolation_eq, hdenies]

/-- A load that may not be made and is not reported returns 0. -/
theorem State.loadDismissibleEffect_zero (f : Word → Word) (d : RegNum) (hb : s.dbreakHit a = false)
    (hc : isCRegSpace a = false) (hcheck : s.disReadCheck w a = none) (hp : s.disReadPerformed w a = false) :
    s.loadDismissibleEffect w f d a = lsuEffect [.gpr d 0#32] := by
  simp [State.loadDismissibleEffect, hb, hc, hcheck, hp]

/-- Misalignment is reported only if PSW bit 4 is set, no translation only if TLB_DYNAMIC is (20 R122). -/
theorem State.disReadCheck_eq_none (hm : w.misaligned a = true → s.psw.getLsbD 4 = false)
    (hmulti : s.multiMapping a = false) (hno : s.psw.getLsbD 3 = true → s.noTranslation a = false) :
    s.disReadCheck w a = none := by
  have hfirst : (w.misaligned a && s.specloadMaligntrapEn) = false := by
    cases h : w.misaligned a with
    | true => exact hm h
    | false => rfl
  have hsecond : (s.tlbDynamic && s.noTranslation a) = false := by
    cases h : s.tlbDynamic with
    | true => exact hno h
    | false => rfl
  simp [State.disReadCheck, hfirst, hsecond, hmulti]

theorem State.disReadCheck_misaligned (hm : w.misaligned a = true) (hen : s.psw.getLsbD 4 = true) :
    s.disReadCheck w a = some { cause := .misalignedTrap, addr := a } := by
  have hen' : s.specloadMaligntrapEn = true := hen
  simp [State.disReadCheck, hm, hen']

theorem State.disReadCheck_dtlb (hm : w.misaligned a = true → s.psw.getLsbD 4 = false)
    (h : s.multiMapping a = true ∨ s.tlbDynamic = true ∧ s.noTranslation a = true) :
    s.disReadCheck w a = some (s.raiseDtlb a 1 true false) := by
  have hfirst : (w.misaligned a && s.specloadMaligntrapEn) = false := by
    cases h : w.misaligned a with
    | true => exact hm h
    | false => rfl
  have hsecond : (s.multiMapping a || (s.tlbDynamic && s.noTranslation a)) = true := by
    simpa using h
  simp only [State.disReadCheck, hfirst, hsecond, Bool.false_eq_true, if_true, if_false]

end Effect

/-! ### The operations -/

/-- A dismissible load is what `DismissibleForm` says: each clause is one of the effects above. -/
theorem dismissibleForm_of_exec {opc : BitVec 5} {op : RegNum → RegNum → BitVec 9 → Instr} {w : Width}
    {f g : Word → Word} (hop : loadOp opc.toNat = some op)
    (hexec : ∀ d s1 i s, exec (op d s1 i) s = issue (s.dismissibleBy w f d s1 i) s) (hf : f = g) :
    DismissibleForm opc op w g := by
  have hzero {s : State} {d s1 : RegNum} {i : BitVec 9} (halone : s.alone)
      (h : s.loadDismissibleEffect w f d (s.gpr s1 + s.imm i) = lsuEffect [.gpr d 0#32]) :
      Completes (op d s1 i) s (WritesGpr d 0#32 s) :=
    completes_writesGpr (kind := .loadStore) ((hexec d s1 i s).trans (congrArg (issue · s) h)) halone
  have htraps {s : State} {d s1 : RegNum} {i : BitVec 9} {r : Raised} (halone : s.alone)
      (h : s.loadDismissibleEffect w f d (s.gpr s1 + s.imm i) = lsuRaise r)
      (htlb : r.cause ≠ .itlb → r.cause ≠ .dtlb → r.tlb = none) : TrapsOn (op d s1 i) s r.cause r.exceptAddress :=
    trapsOn_of_raised (e := lsuRaise r) ((hexec d s1 i s).trans (congrArg (issue · s) h)) halone rfl htlb
  exact {
    encoding := decodeSyllable_load hop
    reads := fun s d s1 i pa halone h hscu he => by
      refine completes_writesGpr (kind := .loadStore) ?_ halone
      rw [hexec, State.dismissibleBy, State.loadDismissibleEffect_reads f d h.noBreak h.notCreg h.aligned h.leads hscu,
        State.memLoadWrites_memory w f d h.notPeripheral he, hf]
      rfl
    zeroOutsideScu := fun s d s1 i pa halone hb hc hm h hscu => by
      obtain ⟨hno, hmulti, htr⟩ := h.single
      refine hzero halone (State.loadDismissibleEffect_zero f d hb hc ?_ ?_)
      · exact State.disReadCheck_eq_none (fun h => by cases hm.symm.trans h) hmulti fun _ => hno
      · simp [State.disReadPerformed, htr, hscu]
    zeroCreg := fun s d s1 i halone hb hc => hzero halone (State.loadDismissibleEffect_creg f d hb hc)
    zeroMisaligned := fun s d s1 i pa halone hb hc hm hen h => by
      obtain ⟨hno, hmulti, -⟩ := h.single
      refine hzero halone (State.loadDismissibleEffect_zero f d hb hc ?_ ?_)
      · exact State.disReadCheck_eq_none (fun _ => hen) hmulti fun _ => hno
      · simp [State.disReadPerformed, hm]
    zeroUnmapped := fun s d s1 i halone hb hc hm hon hstatic hnone => by
      have hlookup := State.lookup_eq_unmapped hon hnone
      refine hzero halone (State.loadDismissibleEffect_zero f d hb hc ?_ ?_)
      · refine State.disReadCheck_eq_none hm ?_ fun h => by cases hstatic.symm.trans h
        simp [State.multiMapping, hlookup]
      · simp [State.disReadPerformed, State.noTranslation, hlookup]
    zeroUnreadable := fun s d s1 i k halone hb hc hm hon hk hprot => by
      have hlookup := State.lookup_eq_mapped hon hk
      refine hzero halone (State.loadDismissibleEffect_zero f d hb hc ?_ ?_)
      · refine State.disReadCheck_eq_none hm ?_ fun _ => ?_
        · simp [State.multiMapping, hlookup]
        · simp [State.noTranslation, hlookup]
      · have hviolates : s.readViolation (s.gpr s1 + s.imm i) = true := by
          rw [State.readViolation, hlookup]
          exact congrArg not hprot
        simp [State.disReadPerformed, hviolates]
    trapsDbreak := fun s d s1 i halone hb => htraps halone (State.loadDismissibleEffect_dbreak f d hb) fun _ _ => rfl
    trapsMisaligned := fun s d s1 i halone hb hc hm hen =>
      htraps halone (State.loadDismissibleEffect_raises f d hb hc (State.disReadCheck_misaligned hm hen)) fun _ _ => rfl
    trapsDtlb := fun s d s1 i halone hb hc hm hon h => htraps halone (State.loadDismissibleEffect_raises f d hb hc
      (State.disReadCheck_dtlb hm (State.reported_of_mappings hon h))) fun _ h => absurd rfl h }

/-- Settles O24. -/
theorem dismissibleLoadResults : Obligations.DismissibleLoadResults :=
  ⟨dismissibleForm_of_exec rfl exec_ldwD rfl, dismissibleForm_of_exec rfl exec_ldhD extendHalf_eq,
    dismissibleForm_of_exec rfl exec_ldhuD extendHalfU_eq, dismissibleForm_of_exec rfl exec_ldbD extendByte_eq,
    dismissibleForm_of_exec rfl exec_ldbuD extendByteU_eq⟩

end Sys2Proof.Machine
end

section
/-! Control transfers, rfi, the PSW operations and the operations that trap (44 R450 to R468; 45 R471 to R475). -/

namespace Sys2Proof.Machine

/-! ### Jumps -/

/-- The relative target of R450 in 32-bit arithmetic. -/
theorem State.branchTarget_eq (s : State) (o : BitVec 23) : s.branchTarget o = s.pc + (o.signExtend 32 <<< 2) := by
  have htarg := register_sext32_mul_two_pow (o.signExtend 32) 2
  rw [sext32, BitVec.toInt_signExtend_of_le (by decide)] at htarg
  rw [State.branchTarget, register_add, register_zext32, ← htarg]
  rfl

/-- A write of the PC after moving past the bundle makes it a jump. -/
theorem OnlyAdvances.setPc {s t : State} (h : OnlyAdvances s t) (target : Word) :
    OnlyJumps target s (t.setPc target) where
  gprs := h.gprs
  branches := h.branches
  pc := rfl
  memory := h.memory
  system := { h.system with }

theorem OnlyAdvances.toJumps {s t : State} (h : OnlyAdvances s t) : OnlyJumps (s.nextSeqPc s.bundle.words) s t :=
  { h with }

theorem OnlyJumps.link {s t : State} {target : Word} (h : OnlyJumps target s t) :
    CallsTo target s (t.setGpr linkReg (s.nextSeqPc s.bundle.words)) where
  link := t.gpr_setGpr_same linkReg _
  others r hr := (t.gpr_setGpr_other _ hr).trans (h.gprs r)
  branches c := (State.br_congr (t.setGpr_branch _ _) c).trans (h.branches c)
  pc := (t.setGpr_pc _ _).trans h.pc
  memory a := (congrArg (·.read a) (t.setGpr_mem _ _)).trans (h.memory a)
  system := h.system.setGpr _ _

theorem completes_onlyJumps {i : Instr} {s : State} {target : Word}
    (hexec : exec i s = issue (jumpEffect target []) s) (halone : s.alone) : Completes i s (OnlyJumps target s) :=
  completes_of_issue hexec halone rfl rfl ((s.advance_onlyAdvances _).setPc target)

theorem completes_callsTo {i : Instr} {s : State} {target : Word}
    (hexec : exec i s = issue (jumpEffect target [.gpr linkReg (s.nextSeqPc s.bundle.words)]) s) (halone : s.alone) :
    Completes i s (CallsTo target s) :=
  completes_of_issue hexec halone rfl rfl ((s.advance_onlyAdvances _).setPc target).link

/-- A conditional branch jumps to its target or to the next bundle. -/
theorem completes_branch {i : Instr} {s : State} {taken : Bool} {o : BitVec 23}
    (hexec : exec i s = issue (s.branchEffect taken o) s) (halone : s.alone) :
    Completes i s (OnlyJumps (if taken then s.pc + (o.signExtend 32 <<< 2) else s.nextSeqPc s.bundle.words) s) := by
  rw [← State.branchTarget_eq]
  cases taken with
  | true => exact completes_onlyJumps hexec halone
  | false => exact completes_of_issue hexec halone rfl rfl (s.advance_onlyAdvances _).toJumps

/-- Settles O30. -/
theorem branchAndCallResults : Obligations.BranchAndCallResults := by
  intro s c o halone
  refine ⟨completes_branch rfl halone, ?_, ?_, completes_callsTo rfl halone⟩
  · have hbrf := completes_branch (i := .brf c o) (s := s) (taken := !s.br c) rfl halone
    cases hc : s.br c with
    | true =>
      rw [hc] at hbrf
      exact hbrf
    | false =>
      rw [hc] at hbrf
      exact hbrf
  · rw [← State.branchTarget_eq]
    exact completes_callsTo rfl halone

/-! ### goto and the idle macro -/

theorem State.entersIdle_eq_false {s : State} {o : BitVec 23}
    (h : o ≠ 0#23 ∨ s.bundle.words ≠ 1 ∨ s.pm.enb = true ∨ s.sdiOutputsEmpty = false) : s.entersIdle o = false := by
  unfold State.entersIdle
  rcases h with h | h | h | h <;> simp [h]

theorem State.entersIdle_eq_true {s : State} (hwords : s.bundle.words = 1) (henb : s.pm.enb = false)
    (hempty : s.sdiOutputsEmpty = true) : s.entersIdle 0#23 = true := by
  simp [State.entersIdle, hwords, henb, hempty]

theorem exec_goto (s : State) (o : BitVec 23) : exec (.goto o) s
    = issue (jumpEffect (s.pc + (o.signExtend 32 <<< 2)) (if s.entersIdle o then [.enterIdle] else [])) s := by
  rw [← State.branchTarget_eq]
  rfl

/-- Settles O31. -/
theorem gotoResults : Obligations.GotoResults := by
  intro s o halone
  refine ⟨fun h => ?_, fun ho hwords henb hempty => ?_, completes_onlyJumps rfl halone⟩
  · have hexec := exec_goto s o
    rw [State.entersIdle_eq_false h] at hexec
    exact completes_of_issue hexec halone rfl rfl ⟨(s.advance_onlyAdvances _).setPc _, rfl⟩
  · subst ho
    have hexec := exec_goto s 0#23
    rw [State.entersIdle_eq_true hwords henb hempty, show s.pc + (BitVec.signExtend 32 0#23 <<< 2) = s.pc from
      BitVec.add_zero s.pc] at hexec
    refine completes_of_issue hexec halone rfl rfl ⟨?_, rfl, ?_⟩
    · have hjump := (s.advance_onlyAdvances [jumpEffect s.pc [.enterIdle]]).setPc s.pc
      exact { hjump with
        system := { hjump.system with pmControl := ⟨rfl, rfl, rfl⟩, pmCounters := fun _ => rfl } }
    · exact congrArg (fun pm : Perf => { pm with idle := true }) (s.pm.advance_off _ _ s.oracle henb)

/-! ### rfi and the PSW -/

/-- Settles O32. -/
theorem returnFromExceptionResult : Obligations.ReturnFromExceptionResult := by
  intro s halone hu
  have hexec : exec .rfi s = issue { kind := .branchTaken, writes := [.returnFromException] } s :=
    congrArg (issue · s) (State.privileged_supervisor hu _)
  have hadvance := s.advance_onlyAdvances [{ kind := .branchTaken, writes := [.returnFromException] }]
  exact completes_of_issue hexec halone rfl rfl ⟨rfl, congrArg (s.trap.savedPsw &&& 0x31F#32 ||| · &&& 0x1000#32) rfl,
    rfl, hadvance.gprs, hadvance.branches, rfl, hadvance.memory, { hadvance.system with }⟩

theorem pswAssign_or (psw v : Word) :
    pswAssign psw (psw ||| v) = ((psw ||| v) &&& 0x31F#32) ||| (psw &&& 0x1000#32) := by
  rw [pswAssign, BitVec.and_comm (psw ||| v) psw]
  ext i hi
  simp only [BitVec.getElem_or, BitVec.getElem_and]
  cases psw[i] <;> simp

theorem pswAssign_and (psw v : Word) : pswAssign psw (psw &&& v) = psw &&& v &&& 0x131F#32 := by
  rw [pswAssign, show psw &&& v &&& psw = psw &&& v by ext i hi; simp; cases psw[i] <;> simp,
    ← BitVec.and_or_distrib_left]
  rfl

/-- An operation that writes the PSW and nothing else. -/
theorem completes_psw {i : Instr} {s : State} {v : Word} (halone : s.alone)
    (hexec : exec i s = issue (lsuEffect [.psw v]) s) :
    Completes i s fun t => t.psw = v ∧ OnlyAdvances s { t with psw := s.psw } := by
  have hadvance := s.advance_onlyAdvances [lsuEffect [.psw v]]
  exact completes_of_issue hexec halone rfl rfl ⟨rfl, { hadvance with system := { hadvance.system with } }⟩

/-- Settles O33. -/
theorem pswSetAndClearResults : Obligations.PswSetAndClearResults := by
  intro s r halone hu
  rw [← pswAssign_or, ← pswAssign_and]
  exact ⟨completes_psw halone (congrArg (issue · s) (State.privileged_supervisor hu _)),
    completes_psw halone (congrArg (issue · s) (State.privileged_supervisor hu _))⟩

/-! ### Operations that trap -/

/-- Settles O35. -/
theorem trapOperationsTakeTheirException : Obligations.TrapOperationsTakeTheirException := by
  intro s n halone
  have htraps {i : Instr} {c : Cause} (hexec : exec i s = issue { raised := some { cause := c } } s) :
      TrapsOn i s c ({ cause := c } : Raised).exceptAddress := trapsOn_of_raised hexec halone rfl fun _ _ => rfl
  exact ⟨htraps (c := .sbreak) rfl, htraps (c := .syscall) rfl, htraps (c := .illInst) rfl⟩

end Sys2Proof.Machine
end

section
/-! Exception and debug entry, the causes of a bundle boundary and the comparisons they rest on (60 R506 to R522, R540;
61 R600 to R611). -/

namespace Sys2Proof.Machine

/-! ### Exception and debug entry -/

theorem pswOnException_getLsbD (psw : Word) (n : Nat) :
    (pswOnException psw).getLsbD n = if n = 0 ∨ n = 1 ∨ n = 8 ∨ n = 9 then false else psw.getLsbD n := by
  by_cases hn : n < 32
  · interval_cases n <;> simp [pswOnException]
  · rw [BitVec.getLsbD_of_ge _ _ (by omega), if_neg (by omega), BitVec.getLsbD_of_ge _ _ (by omega)]

theorem pswOnDebug_getLsbD (psw : Word) (n : Nat) :
    (pswOnDebug psw).getLsbD n = if n = 12 then true
      else if n = 0 ∨ n = 1 ∨ n = 2 ∨ n = 8 ∨ n = 9 then false else psw.getLsbD n := by
  by_cases hn : n < 32
  · interval_cases n <;> simp [pswOnDebug]
  · rw [BitVec.getLsbD_of_ge _ _ (by omega), if_neg (by omega), if_neg (by omega), BitVec.getLsbD_of_ge _ _ (by omega)]

/-- Settles O36. -/
theorem exceptionEntrySavesAndJumps : Obligations.ExceptionEntrySavesAndJumps := by
  intro s r
  refine ⟨?_, ?_, fun n => ?_, rfl, fun record hrecord => ?_, s.takeException_traps r⟩
  · obtain ⟨cause, addr, tlb⟩ := r
    cases cause <;> rfl
  · obtain ⟨cause, addr, tlb⟩ := r
    cases cause <;> rfl
  · rw [State.takeException_psw]
    exact pswOnException_getLsbD s.psw n
  · rw [State.takeException_mmu, hrecord]
    rfl

/-- Settles O37. -/
theorem debugInterruptEntry : Obligations.DebugInterruptEntry := by
  intro s hpending hmode
  have haccepted : s.boundary.debugAccepted = true := by
    rw [State.debugAccepted, hpending, show s.boundary.debugMode = false from hmode]
    rfl
  obtain ⟨henb, hidle, hevent⟩ := s.boundary.pm.advance_control { exceptions := 1 } true s.boundary.oracle
  refine ⟨_, State.runBoundary_debug haccepted, ?_⟩
  generalize s.boundary = u at *
  rw [State.enterDebug_psw]
  unfold State.enterDebug
  exact ⟨rfl, pswOnDebug_getLsbD u.psw, rfl, rfl, rfl, rfl, rfl, rfl, rfl, rfl, rfl, rfl, rfl, rfl, rfl, rfl, henb,
    hidle, hevent⟩

/-! ### The causes of a boundary -/

/-- With no SDI access waiting, the causes of a boundary stand in the order of their priority. -/
theorem State.boundaryCauses_running {s : State} (h : s.sdiStalled = false) : s.boundaryCauses =
    (if s.dcError = some 0 then [{ cause := .stbusDcError }] else [])
    ++ (if s.interruptAccepted then [{ cause := .externInt }] else [])
    ++ (if s.ibreakHit s.pc then [{ cause := .ibreak }] else []) := by
  simp [State.boundaryCauses, h, State.busErrorDue]

/-- Settles O38. -/
theorem boundaryCausesByPriority : Obligations.BoundaryCausesByPriority := by
  intro s ws hd hf hrunning
  have htaken {c : Cause} (hc : highestPriority s.boundary.boundaryCauses = some { cause := c }) :
      step s = .next (s.boundary.takeException { cause := c }) := State.runBoundary_cause hd hf hc
  have htraps (c : Cause) := s.boundary.takeException_traps { cause := c } fun _ _ => rfl
  have hcauses := State.boundaryCauses_running hrunning
  refine ⟨fun hdue => ?_, fun hdue hint => ?_, fun hdue hint hbreak => ?_⟩
  · refine ⟨_, htaken (c := .stbusDcError) ?_, htraps .stbusDcError, rfl⟩
    rw [hcauses, if_pos hdue]
    cases s.boundary.interruptAccepted <;> cases s.boundary.ibreakHit s.boundary.pc <;> rfl
  · refine ⟨_, htaken (c := .externInt) ?_, htraps .externInt⟩
    rw [hcauses, if_neg hdue, if_pos hint]
    cases s.boundary.ibreakHit s.boundary.pc <;> rfl
  · refine ⟨_, htaken (c := .ibreak) ?_, htraps .ibreak⟩
    rw [hcauses, if_neg hdue, if_neg (Bool.not_eq_true _ ▸ hint), if_pos hbreak]
    rfl

/-! ### External interrupts (60 R540, R541) -/

/-- Two words share a set bit unless their conjunction is 0. -/
theorem and_bne_zero_iff (x m : Word) : (x &&& m != 0#32) = true ↔
    ∃ n : Fin 32, m.getLsbD n.val = true ∧ x.getLsbD n.val = true := by
  rw [bne_iff_ne, ne_eq, ← not_iff_not, not_not, not_exists]
  constructor
  · intro h n hn
    have hbit := congrArg (fun w : Word => w.getLsbD n.val) h
    simp only [BitVec.getLsbD_and, hn.1, hn.2, BitVec.getLsbD_zero, Bool.and_self] at hbit
    cases hbit
  · intro h
    refine BitVec.eq_of_getLsbD_eq fun n hn => ?_
    rw [BitVec.getLsbD_and, BitVec.getLsbD_zero, ← Bool.not_eq_true, Bool.and_eq_true, and_comm]
    exact h ⟨n, hn⟩

/-- Lines 31 to 3 are pins, and lines 2 to 0 the timers. -/
theorem State.linesLow_getLsbD (s : State) (n : Fin 32) : s.linesLow.getLsbD n.val = true ↔
    (3 ≤ n.val ∧ s.pins.irqLow.getLsbD n.val = true)
    ∨ ∃ i : Fin 3, i.val = n.val ∧ (s.timers.timer.get i).status = true ∧ (s.timers.timer.get i).intEnable = true := by
  have htimer (i : Fin 3) (hi : i.val = n.val) : s.linesLow.getLsbD n.val = (s.timers.timer.get i).interrupt := by
    rw [← hi]
    fin_cases i <;> simp [-Nat.reduceAdd, -BitVec.getLsbD_eq_getElem, State.linesLow, BitVec.getLsbD_append]
  by_cases hn : 3 ≤ n.val
  · have hpin : s.linesLow.getLsbD n.val = s.pins.irqLow.getLsbD n.val := by
      rw [State.linesLow, BitVec.getLsbD_append, BitVec.getLsbD_append, BitVec.getLsbD_append, if_neg (by omega),
        if_neg (by omega), if_neg (by omega), BitVec.getLsbD_extractLsb']
      have := n.isLt
      simp [show n.val - 1 - 1 - 1 < 29 by omega, show 3 + (n.val - 1 - 1 - 1) = n.val by omega]
    rw [hpin]
    refine ⟨fun h => .inl ⟨hn, h⟩, fun h => ?_⟩
    rcases h with ⟨-, h⟩ | ⟨i, hi, -⟩
    · exact h
    · exact absurd i.isLt (by omega)
  · rw [htimer ⟨n.val, by omega⟩ rfl, Timer.interrupt, Bool.and_eq_true]
    refine ⟨fun h => .inr ⟨⟨n.val, by omega⟩, rfl, h⟩, fun h => ?_⟩
    rcases h with ⟨h, -⟩ | ⟨i, hi, h⟩
    · exact absurd h hn
    · rwa [show (⟨n.val, by omega⟩ : Fin 3) = i from Fin.ext hi.symm]

/-- Settles O40. -/
theorem interruptAcceptance : Obligations.InterruptAcceptance := by
  intro s
  have hpending (k : Fin 2) (n : Nat) : (s.intPending k).getLsbD n = true ↔
      (s.intc.test.get k).getLsbD n = true ∨ (if k = 0 then s.linesLow else s.pins.irqHigh).getLsbD n = true := by
    rw [State.intPending, BitVec.getLsbD_or, Bool.or_eq_true, or_comm]
  unfold State.interruptAccepted State.interruptLine
  rw [Bool.and_eq_true, Bool.or_eq_true, Bool.or_eq_true, and_bne_zero_iff, and_bne_zero_iff, or_comm]
  simp only [hpending, if_true, State.linesLow_getLsbD]
  rfl

/-! ### Breakpoints (61 R600 to R602) -/

/-- Settles O41. -/
theorem breakpointComparisons : Obligations.BreakpointComparisons := by
  refine ⟨fun control lower upper a => ?_, fun s a => ?_, fun s a => ?_⟩
  · simp only [breakCompare, BitVec.le_def, BitVec.lt_def, Bool.or_eq_true, Bool.and_eq_true, decide_eq_true_eq,
      beq_iff_eq, and_assoc, or_assoc]
  · exact Bool.and_eq_true_iff
  · exact Bool.and_eq_true_iff

end Sys2Proof.Machine
end

section
/-! Pages, the speculative control unit, the control register map, timers and reset (20 R132, R133, R145; 10 R40; 60
R545, R546; 70 R700). -/

namespace Sys2Proof.Machine

/-! ### Pages and SCU regions -/

/-- The bits of a 32-bit value from bit `lo` up are its quotient. -/
theorem toNat_extractLsb'_high {w lo len : Nat} (h : lo + len = w) (v : BitVec w) :
    (v.extractLsb' lo len).toNat = v.toNat / 2 ^ lo := by
  rw [BitVec.extractLsb'_toNat, Nat.shiftRight_eq_div_pow]
  refine Nat.mod_eq_of_lt (Nat.div_lt_of_lt_mul ?_)
  rw [← Nat.pow_add, h]
  exact v.isLt

theorem toNat_extractLsb'_zero {w : Nat} (v : BitVec w) (len : Nat) :
    (v.extractLsb' 0 len).toNat = v.toNat % 2 ^ len := by
  rw [BitVec.extractLsb'_toNat, Nat.shiftRight_zero]

/-- The tag compares the page number of the entry's size (20 R132). -/
theorem UtlbEntry.tagMatches_iff (e : UtlbEntry) (v : Word) : e.tagMatches v = true ↔
    (e.size = 1#3 ∧ v.toNat / 2 ^ 13 = e.vaddr.toNat)
    ∨ (e.size = 2#3 ∧ v.toNat / 2 ^ 22 = e.vaddr.toNat / 2 ^ 9)
    ∨ (e.size = 3#3 ∧ v.toNat / 2 ^ 28 = e.vaddr.toNat / 2 ^ 15) := by
  have hpage {lo len : Nat} (h : lo + len = 32) (x : BitVec len) :
      (v.extractLsb' lo len == x) = true ↔ v.toNat / 2 ^ lo = x.toNat := by
    rw [beq_iff_eq, ← BitVec.toNat_inj, toNat_extractLsb'_high h]
  have hsize (n : Nat) (hn : n < 8) : e.size = BitVec.ofNat 3 n ↔ e.size.toNat = n := by
    rw [← BitVec.toNat_inj, BitVec.toNat_ofNat, Nat.mod_eq_of_lt hn]
  rw [← toNat_extractLsb'_high (lo := 9) (len := 10) rfl e.vaddr,
    ← toNat_extractLsb'_high (lo := 15) (len := 4) rfl e.vaddr, hsize 1 (by decide), hsize 2 (by decide),
    hsize 3 (by decide), ← hpage rfl, ← hpage rfl, ← hpage rfl]
  unfold UtlbEntry.tagMatches
  split
  case h_1 h => simp [h]
  case h_2 h => simp [h]
  case h_3 h => simp [h]
  case h_4 h1 h2 h3 =>
    simp [show e.size.toNat ≠ 1 from h1, show e.size.toNat ≠ 2 from h2, show e.size.toNat ≠ 3 from h3]

/-- A page number and the offset within the page make the physical address (20 R133). -/
theorem toNat_page_append {m n : Nat} (p : BitVec m) (v : Word) :
    (p ++ v.extractLsb' 0 n).toNat = p.toNat * 2 ^ n + v.toNat % 2 ^ n := by
  rw [BitVec.toNat_append, toNat_extractLsb'_zero, Nat.shiftLeft_eq, Nat.mul_comm,
    Nat.two_pow_add_eq_or_of_lt (Nat.mod_lt _ (Nat.two_pow_pos n))]

theorem UtlbEntry.translate_toNat (e : UtlbEntry) (v : Word) :
    (e.size = 1#3 → (e.translate v).toNat = e.paddr.toNat * 2 ^ 13 + v.toNat % 2 ^ 13)
    ∧ (e.size = 2#3 → (e.translate v).toNat = e.paddr.toNat / 2 ^ 9 * 2 ^ 22 + v.toNat % 2 ^ 22)
    ∧ (e.size = 3#3 → (e.translate v).toNat = e.paddr.toNat / 2 ^ 15 * 2 ^ 28 + v.toNat % 2 ^ 28) := by
  rw [← toNat_extractLsb'_high (lo := 9) (len := 10) rfl e.paddr,
    ← toNat_extractLsb'_high (lo := 15) (len := 4) rfl e.paddr]
  unfold UtlbEntry.translate
  refine ⟨fun h => ?_, fun h => ?_, fun h => ?_⟩
  · rw [h]
    exact toNat_page_append _ v
  · rw [h]
    exact toNat_page_append _ v
  · rw [h]
    exact toNat_page_append _ v

theorem State.scuHit_iff (s : State) (pa : Word) : s.scuHit pa = true ↔
    ∃ k : Fin 4, (s.mmu.scuBase.get k).toNat ≤ pa.toNat / 2 ^ 13
      ∧ pa.toNat / 2 ^ 13 ≤ (s.mmu.scuLimit.get k).toNat := by
  rw [State.scuHit, toNat_extractLsb'_high rfl]
  simp only [List.any_eq_true, List.mem_finRange, true_and, Bool.and_eq_true, decide_eq_true_eq]

/-- Settles O42. -/
theorem pagesAndScuRegions : Obligations.PagesAndScuRegions := by
  refine ⟨fun e asid v => ⟨?_, e.translate_toNat v⟩, State.scuHit_iff, fun pa => ?_⟩
  · rw [UtlbEntry.maps, Bool.and_eq_true, Bool.or_eq_true, UtlbEntry.tagMatches_iff, beq_iff_eq]
    rfl
  · rw [State.scuHit_iff]
    refine ⟨0, Nat.zero_le _, ?_⟩
    have hlimit : (State.reset.mmu.scuLimit.get 0).toNat = 2 ^ 19 - 1 := rfl
    rw [hlimit]
    have := pa.isLt
    omega

/-! ### The control register map (10 R40) -/

/-- A table with distinct keys finds exactly its pairs. -/
theorem lookup_eq_some_iff {α β : Type} [BEq α] [LawfulBEq α] {l : List (α × β)} (h : (l.map Prod.fst).Nodup) {a : α}
    {b : β} : l.lookup a = some b ↔ (a, b) ∈ l := by
  induction l with
  | nil => simp
  | cons x l ih =>
    obtain ⟨k, v⟩ := x
    rw [List.map_cons, List.nodup_cons] at h
    by_cases hk : a = k
    · subst hk
      have hnot : (a, b) ∉ l := fun hb => h.1 (List.mem_map.mpr ⟨_, hb, rfl⟩)
      simp [hnot, eq_comm]
    · rw [List.lookup_cons, beq_false_of_ne hk, List.mem_cons, Prod.mk.injEq]
      simp [hk, ih h.2]

/-- The offset of an address of control register space. -/
theorem creg_offset {a : Word} (h : isCRegSpace a = true) : (a.extractLsb' 0 16).toNat = a.toNat - 0xFFFF0000 := by
  have hhigh : a.toNat / 2 ^ 16 = 0xFFFF := by
    rw [← toNat_extractLsb'_high (lo := 16) (len := 16) rfl, show a.extractLsb' 16 16 = 0xFFFF#16 from beq_iff_eq.mp h]
    rfl
  rw [toNat_extractLsb'_zero]
  omega

theorem cregTable_nodup : (cregTable.map Prod.fst).Nodup := by decide

theorem cregTable_perm : cregTable.Perm
    [trapRegisterMap, reservedAndDataBreakMap, debugAndMonitorMap, sdiRegisterMap, scuRegisterMap].flatten := by
  decide

/-- Settles O43: both lists hold the same pairs, and no offset twice. -/
theorem controlRegisterMap : Obligations.ControlRegisterMap := by
  intro a r ha
  rw [← creg_offset ha, cregAt, lookup_eq_some_iff cregTable_nodup]
  exact cregTable_perm.mem_iff

/-! ### Timers (60 R545, R546) -/

/-- A tick comes every DIVIDE + 1 bus clocks, counted by the prescaler. -/
theorem State.busClock_iterate (s : State) {n : Nat} (h : s.timers.presc + n ≤ s.timers.divide.toNat) :
    State.busClock^[n] s = { s with timers := { s.timers with presc := s.timers.presc + n } } := by
  induction n with
  | zero => rfl
  | succ n ih =>
    rw [Function.iterate_succ_apply', ih (by omega), State.busClock, if_neg (by dsimp only; omega)]
    rfl

/-- From a fresh prescaler DIVIDE + 1 bus clocks are one tick of the three timers, and leave the prescaler fresh. -/
theorem State.busClock_period {s : State} (h : s.timers.presc = 0) :
    State.busClock^[s.timers.divide.toNat + 1] s
      = { s with timers := { s.timers with timer := s.timers.timer.map Timer.tick, presc := 0 } } := by
  rw [Function.iterate_succ_apply', s.busClock_iterate (by omega), State.busClock, if_pos (by dsimp only; omega)]

/-- So `n` periods are `n` ticks. -/
theorem State.busClock_ticks {s : State} (h : s.timers.presc = 0) (n : Nat) :
    (State.busClock^[n * (s.timers.divide.toNat + 1)] s).timers
      = { s.timers with timer := s.timers.timer.map Timer.tick^[n], presc := 0 } := by
  induction n with
  | zero =>
    rw [Nat.zero_mul, Function.iterate_zero, Function.iterate_zero, id, Vector.map_id, ← h]
  | succ n ih =>
    obtain ⟨u, hu⟩ : ∃ u, u = State.busClock^[n * (s.timers.divide.toNat + 1)] s := ⟨_, rfl⟩
    rw [← hu] at ih
    have hdivide : u.timers.divide = s.timers.divide := by rw [ih]
    have hperiod := State.busClock_period (s := u) (by rw [ih])
    rw [hdivide] at hperiod
    rw [Nat.succ_mul, Nat.add_comm, Function.iterate_add_apply, ← hu, hperiod, Function.iterate_succ']
    dsimp only
    rw [ih, Vector.map_map]

theorem timer_get_map (v : Vector Timer 3) (f : Timer → Timer) (i : Fin 3) : (v.map f).get i = f (v.get i) :=
  Vector.getElem_map f i.isLt

/-- An enabled timer counts down by one a tick until it holds 0. -/
theorem Timer.tick_iterate {t : Timer} (he : t.enable = true) {n : Nat} (h : n ≤ t.count.toNat) :
    Timer.tick^[n] t = { t with count := t.count - BitVec.ofNat 32 n } := by
  induction n with
  | zero => simp
  | succ n ih =>
    have hne : t.count - BitVec.ofNat 32 n ≠ 0#32 := by
      have := t.count.isLt
      bv_omega
    rw [Function.iterate_succ_apply', ih (by omega), Timer.tick, if_pos he, if_neg hne, BitVec.ofNat_add,
      ← BitVec.sub_sub]

/-- One tick more reloads it and sets STATUS. -/
theorem Timer.tick_reload {t : Timer} (he : t.enable = true) :
    Timer.tick^[t.count.toNat + 1] t = { t with count := t.const, status := true } := by
  rw [Function.iterate_succ_apply', Timer.tick_iterate he (Nat.le_refl _), Timer.tick, if_pos he, if_pos (by simp)]

theorem Timer.tick_disabled {t : Timer} (h : t.enable = false) : t.tick = t := by
  simp [Timer.tick, h]

/-- Settles O52: `n` periods of the prescaler are `n` ticks. -/
theorem timerPeriod : Obligations.TimerPeriod := by
  refine ⟨fun s i n h he hn => ?_, fun s i h he => ?_, fun s i n hoff => ?_⟩
  · rw [State.busClock_ticks h n]
    exact (timer_get_map _ _ i).trans (Timer.tick_iterate he hn)
  · rw [State.busClock_ticks h]
    exact (timer_get_map _ _ i).trans (Timer.tick_reload he)
  · induction n with
    | zero => rfl
    | succ n ih =>
      rw [Function.iterate_succ_apply', State.busClock]
      split
      · refine (timer_get_map _ _ i).trans ?_
        rw [ih, Timer.tick_disabled hoff]
      · exact ih

/-! ### Reset (70 R700) -/

theorem State.sdiResetInput_bit (s : State) (p : Fin 4) :
    (s.cregValue (.sdiControl p)).getLsbD 2 = s.pins.sdiReset.get p := by
  show (s.sdiControlValue p).getLsbD 2 = s.sdiResetInput p
  simp [-Nat.reduceAdd, -BitVec.getLsbD_eq_getElem, State.sdiControlValue, BitVec.getLsbD_append]

theorem vector_get_replicate {α : Type} {n : Nat} (x : α) (k : Fin n) : (Vector.replicate n x).get k = x :=
  Vector.getElem_replicate k.isLt

/-- The state after reset, part by part. -/
theorem State.resetWith_sdiPort (cfg : Params) (m : Memory) (pins : Pins) (inputs : List (List EnvEvent))
    (sent : List DsuMessage) (n : Nat) (p : Fin 4) : (State.resetWith cfg m pins inputs sent n).sdiPort p
      = { count := (cfg.sdi.get p).countReset, timeout := (cfg.sdi.get p).countReset } :=
  Vector.getElem_map _ p.isLt

theorem State.resetWith_dsr1 (cfg : Params) (m : Memory) (pins : Pins) (inputs : List (List EnvEvent))
    (sent : List DsuMessage) (n : Nat) : (State.resetWith cfg m pins inputs sent n).dsrValue 1
      = 2#32 ||| (BitVec.ofBool cfg.bigEndian).setWidth 32 <<< 3
        ||| (BitVec.ofBool pins.triggerIn).setWidth 32 <<< 6 := by
  show (State.resetWith cfg m pins inputs sent n).dsr1Value = _
  simp only [State.dsr1Value, State.resetWith, State.debugMode, Bool.and_false, BitVec.getLsbD_zero]
  cases cfg.bigEndian <;> cases pins.triggerIn <;> rfl

theorem State.resetWith_dsr (cfg : Params) (m : Memory) (pins : Pins) (inputs : List (List EnvEvent))
    (sent : List DsuMessage) (n : Nat) {k : Fin 32} (hk : 2 ≤ k.val) :
    (State.resetWith cfg m pins inputs sent n).dsrValue k = 0#32 := by
  rw [State.dsrValue, if_neg (by omega), if_neg (by omega)]
  split
  · rfl
  · have hlt : k.val - 3 < 29 := by omega
    show ((Vector.replicate 29 0#32)[k.val - 3]?).getD 0#32 = 0#32
    rw [Vector.getElem?_eq_getElem hlt, Vector.getElem_replicate]
    rfl

/-- Settles O53. -/
theorem resetState : Obligations.ResetState := by
  intro cfg m pins inputs sent n s
  have hsdi (p : Fin 4) : s.sdiPort p = _ := State.resetWith_sdiPort cfg m pins inputs sent n p
  have hreplace : (0#8 ++ 0x40#8 ++ 0xFFFF#16 : Word) = 0x0040FFFF#32 := by decide
  have hcr : ({} : Perf).crValue = 0#32 := by decide
  refine ⟨rfl, rfl, rfl, rfl, rfl, hreplace, rfl, rfl, rfl, rfl, fun k => ⟨?_, ?_⟩, rfl, hcr, fun p => ?_,
    fun k => ⟨?_, ?_⟩, fun i => ?_, rfl, State.resetWith_dsr1 cfg m pins inputs sent n,
    fun k hk => State.resetWith_dsr _ _ _ _ _ _ hk, rfl, rfl⟩
  · exact congrArg (BitVec.setWidth 32) (vector_get_replicate 0#19 k)
  · exact congrArg (BitVec.setWidth 32) (vector_get_replicate 0x7FFFF#19 k)
  · rw [hsdi p]
    exact ⟨rfl, rfl, rfl, rfl, s.sdiResetInput_bit p⟩
  · exact vector_get_replicate 0#32 k
  · exact vector_get_replicate 0#32 k
  · exact vector_get_replicate ({} : Timer) i

end Sys2Proof.Machine
end

section
/-! Bundles that commit: the operations read the state before the bundle and write together (60 R505; 70 R720, R721),
and immediates are formed from the extensions beside them (30 R207, R208). -/

namespace Sys2Proof.Machine

/-! ### Bundles that neither throw nor wait -/

/-- If no operation throws or waits, the bundle commits. -/
theorem State.finishBundle_commits (s : State) {es : List Effect} (h : ∀ e ∈ es, e.raised = none ∧ e.stall = none) :
    s.finishBundle es = s.retire es := by
  rcases s.finishBundle_cases es with ⟨r, -, e, he, hr⟩ | ⟨p, -, e, he, hp⟩ | ⟨heq, -, -⟩
  · cases (h e he).1.symm.trans hr
  · cases (h e he).2.symm.trans hp
  · exact heq

theorem State.runBundle_commits {s : State} {ops : List Instr} {es : List Effect} (hne : ops ≠ [])
    (hes : List.Forall₂ (fun x eff => s.Evaluates ops.length x.1 x.2 eff) (attachExtensions ops) es)
    (h : ∀ e ∈ es, e.raised = none ∧ e.stall = none) :
    s.runBundle ops = .next (State.retire { s with bundle := { words := ops.length } } es) := by
  rw [State.runBundle_of_evaluates hne hes, State.finishBundle_commits _ h]

/-! ### The operations of the examples -/

theorem State.evaluates_addI (s : State) (words : Nat) (d a : RegNum) (i : BitVec 9) (v : BitVec 23) :
    s.Evaluates words (.addI d a i) (some v) (gprEffect d (addValue (s.gpr a) (v ++ i))) :=
  State.evaluates_of_issue (fun _ => rfl) fun _ _ => rfl

theorem State.evaluates_imml (s : State) (words : Nat) (v : BitVec 23) (e : Option (BitVec 23)) :
    s.Evaluates words (.imml v) e { kind := .longImmediate } :=
  State.evaluates_of_issue (fun _ => rfl) fun _ _ => rfl

theorem State.evaluates_immr (s : State) (words : Nat) (v : BitVec 23) (e : Option (BitVec 23)) :
    s.Evaluates words (.immr v) e { kind := .longImmediate } :=
  State.evaluates_of_issue (fun _ => rfl) fun _ _ => rfl

theorem State.evaluates_br (s : State) (words : Nat) (c : BrNum) (o : BitVec 23) (e : Option (BitVec 23)) :
    s.Evaluates words (.br c o) e (s.branchEffect (s.br c) o) :=
  State.evaluates_of_issue (fun _ => rfl) fun _ _ => rfl

theorem State.evaluates_cmpeqBR (s : State) (words : Nat) (c : BrNum) (a b : RegNum) (e : Option (BitVec 23)) :
    s.Evaluates words (.cmpeqBR c a b) e (brEffect c (condEq (s.gpr a) (s.gpr b))) :=
  State.evaluates_of_issue (fun _ => rfl) fun _ _ => rfl

theorem State.evaluates_call (s : State) (words : Nat) (o : BitVec 23) (e : Option (BitVec 23)) :
    s.Evaluates words (.call o) e (jumpEffect (s.branchTarget o) [.gpr linkReg (s.nextSeqPc words)]) :=
  State.evaluates_of_issue (fun _ => rfl) fun _ _ => rfl

/-! ### Bundles of two operations -/

/-- A bundle of two operations that neither throw nor wait performs both lists of assignments, in order, on a state that
has only moved on. -/
theorem State.runBundle_pair {s : State} {i j : Instr} {a b : Option (BitVec 23)} {e f : Effect}
    (hpair : attachExtensions [i, j] = [(i, a), (j, b)]) (hi : s.Evaluates 2 i a e) (hj : s.Evaluates 2 j b f)
    (he : e.raised = none ∧ e.stall = none) (hf : f.raised = none ∧ f.stall = none) :
    ∃ u, OnlyAdvances { s with bundle := { words := 2 } } u
      ∧ s.runBundle [i, j] = .next ((e.writes ++ f.writes).foldl applyWrite u) := by
  have hes : List.Forall₂ (fun x eff => s.Evaluates [i, j].length x.1 x.2 eff) (attachExtensions [i, j]) [e, f] :=
    hpair ▸ .cons hi (.cons hj .nil)
  refine ⟨_, State.advance_onlyAdvances _ [e, f], ?_⟩
  rw [State.runBundle_commits (List.cons_ne_nil _ _) hes (by simp [he, hf]), State.retire]
  simp [bundleWrites]

/-! ### Immediates -/

theorem toNat_append_eq_add {n m : Nat} (x : BitVec n) (y : BitVec m) :
    (x ++ y).toNat = x.toNat * 2 ^ m + y.toNat := by
  rw [BitVec.toNat_append, Nat.shiftLeft_eq, Nat.mul_comm, ← Nat.two_pow_add_eq_or_of_lt y.isLt]

/-- An extension stands above the field (30 R207). -/
theorem State.imm_extended {s : State} {i : BitVec 9} {v : BitVec 23} (h : s.bundle.ext = some v) :
    s.imm i = v ++ i := by
  rw [State.imm, h]

/-- Settles O9. -/
theorem immediatesAreFormedFromExtensions : Obligations.ImmediatesAreFormedFromExtensions := by
  refine ⟨fun s i h => ?_, fun s i v h => ?_, fun s d s1 i v => ?_, fun s d s1 i v => ?_⟩
  · rw [State.imm, h]
    exact BitVec.toInt_signExtend_of_le (by decide)
  · rw [State.imm_extended h]
    exact toNat_append_eq_add v i
  · obtain ⟨u, hu, hrun⟩ := State.runBundle_pair (i := .addI d s1 i) (j := .imml v) rfl (s.evaluates_addI 2 d s1 i v)
      (s.evaluates_imml 2 v none) ⟨rfl, rfl⟩ ⟨rfl, rfl⟩
    rw [addValue_eq] at hrun
    exact ⟨_, hrun, (hu.setGpr d _).result, (hu.setGpr d _).pc⟩
  · obtain ⟨u, hu, hrun⟩ := State.runBundle_pair (i := .immr v) (j := .addI d s1 i) rfl (s.evaluates_immr 2 v none)
      (s.evaluates_addI 2 d s1 i v) ⟨rfl, rfl⟩ ⟨rfl, rfl⟩
    rw [addValue_eq] at hrun
    exact ⟨_, hrun, (hu.setGpr d _).result, (hu.setGpr d _).pc⟩

/-! ### Reads before writes -/

/-- Two adds with different destinations both use the old registers. -/
theorem State.runBundle_adds (s : State) {d a b e f g : RegNum} (hne : d ≠ e) :
    ∃ t, s.runBundle [.addR d a b, .addR e f g] = .next t
      ∧ t.gpr d = written d (s.gpr a + s.gpr b) ∧ t.gpr e = written e (s.gpr f + s.gpr g)
      ∧ (∀ r, r ≠ d → r ≠ e → t.gpr r = s.gpr r) ∧ KeepsBranches s t ∧ KeepsMemory s t
      ∧ t.pc = alignDown (s.pc + 8#32) := by
  obtain ⟨u, hu, hrun⟩ := State.runBundle_pair (i := .addR d a b) (j := .addR e f g) rfl
    (s.evaluates_addR 2 d a b none) (s.evaluates_addR 2 e f g none) ⟨rfl, rfl⟩ ⟨rfl, rfl⟩
  rw [addValue_eq, addValue_eq] at hrun
  have hfirst := hu.setGpr d (s.gpr a + s.gpr b)
  refine ⟨_, hrun, ?_, State.gpr_setGpr_same _ e _, fun r hd he => ?_, fun c => ?_, fun m => ?_, ?_⟩
  · exact (State.gpr_setGpr_other _ _ hne).trans hfirst.result
  · exact (State.gpr_setGpr_other _ _ he).trans (hfirst.others r hd)
  · exact (State.br_congr (State.setGpr_branch _ _ _) c).trans (hfirst.branches c)
  · exact (congrArg (·.read m) (State.setGpr_mem _ _ _)).trans (hfirst.memory m)
  · exact (State.setGpr_pc _ _ _).trans hfirst.pc

/-- A br beside a compare of its branch register tests the old bit. -/
theorem State.runBundle_branchCompare (s : State) (c : BrNum) (o : BitVec 23) (a b : RegNum) :
    ∃ t, s.runBundle [.br c o, .cmpeqBR c a b] = .next t ∧ t.br c = (s.gpr a == s.gpr b)
      ∧ t.pc = alignDown (if s.br c then s.pc + (o.signExtend 32 <<< 2) else s.pc + 8#32) := by
  obtain ⟨u, hu, hrun⟩ := State.runBundle_pair (i := .br c o) (j := .cmpeqBR c a b) rfl (s.evaluates_br 2 c o none)
    (s.evaluates_cmpeqBR 2 c a b none) (by cases s.br c <;> exact ⟨rfl, rfl⟩) ⟨rfl, rfl⟩
  rw [← s.branchTarget_eq]
  cases hc : s.br c with
  | true =>
    rw [hc] at hrun
    exact ⟨_, hrun, (State.br_setBr_same _ c _).trans (condEq_eq _ _), rfl⟩
  | false =>
    rw [hc] at hrun
    exact ⟨_, hrun, (State.br_setBr_same _ c _).trans (condEq_eq _ _), hu.pc⟩

/-- A call beside an add that reads R63: the add reads the old R63 and the link is the next bundle. -/
theorem State.runBundle_callAdd (s : State) (o : BitVec 23) {d : RegNum} (hd : d ≠ 63#6) :
    ∃ t, s.runBundle [.call o, .addR d 0#6 63#6] = .next t ∧ t.gpr d = written d (s.gpr 63#6)
      ∧ t.gpr 63#6 = s.pc + 8#32 ∧ t.pc = alignDown (s.pc + (o.signExtend 32 <<< 2)) := by
  obtain ⟨u, hu, hrun⟩ := State.runBundle_pair (i := .call o) (j := .addR d 0#6 63#6) rfl (s.evaluates_call 2 o none)
    (s.evaluates_addR 2 d 0#6 63#6 none) ⟨rfl, rfl⟩ ⟨rfl, rfl⟩
  have hcall := (hu.setPc (s.branchTarget o)).link
  rw [addValue_eq, s.gpr_zero, BitVec.zero_add] at hrun
  rw [← s.branchTarget_eq]
  exact ⟨_, hrun, State.gpr_setGpr_same _ d _, (State.gpr_setGpr_other _ _ hd.symm).trans hcall.link,
    (State.setGpr_pc _ _ _).trans hcall.pc⟩

/-- Settles O10. -/
theorem bundleReadsBeforeItWrites : Obligations.BundleReadsBeforeItWrites := by
  refine ⟨fun s words i e => ?_, fun s ops hne => ?_, fun s es h => ?_, ?_, ?_, ?_⟩
  · obtain ⟨eff, heff, -⟩ := s.evaluates_grants words i e
    exact ⟨eff, heff⟩
  · obtain ⟨es, hes, -, hrun⟩ := State.runBundle_grants s hne
    exact ⟨es, hes, hrun⟩
  · exact s.finishBundle_commits h
  · exact fun s d a b e f g => s.runBundle_adds
  · exact fun s c o a b => s.runBundle_branchCompare c o a b
  · exact fun s o d => s.runBundle_callAdd o

end Sys2Proof.Machine
end

section
/-! Bundle legality by position (30 R209, R217 to R228): each check of `bundleFlaw` as a rule about the places of the
bundle's operations. -/

namespace Sys2Proof.Machine

/-! ### Checks over the places of a list -/

/-- No member fails a check exactly when no place does. -/
theorem not_any_iff {α : Type} {l : List α} {p : α → Bool} :
    ¬ l.any p = true ↔ ∀ (k : Nat) x, l[k]? = some x → p x = false := by
  simp only [Bool.not_eq_true, List.any_eq_false, List.mem_iff_getElem?]
  exact ⟨fun h k x hx => h x ⟨k, hx⟩, fun h x ⟨k, hx⟩ => h k x hx⟩

/-- A symmetric conflict that no two members have is one that no two different places have. -/
theorem pairwise_not_iff {α : Type} {l : List α} {P : α → α → Prop} (hsymm : ∀ a b, P a b → P b a) :
    l.Pairwise (fun a b => ¬ P a b) ↔ ∀ (j k : Nat) a b, l[j]? = some a → l[k]? = some b → P a b → j = k := by
  rw [List.pairwise_iff_getElem]
  constructor
  · intro h j k a b ha hb hab
    obtain ⟨hj, rfl⟩ := List.getElem?_eq_some_iff.mp ha
    obtain ⟨hk, rfl⟩ := List.getElem?_eq_some_iff.mp hb
    rcases Nat.lt_trichotomy j k with hlt | heq | hgt
    · exact absurd hab (h j k hj hk hlt)
    · exact heq
    · exact absurd (hsymm _ _ hab) (h k j hk hj hgt)
  · intro h j k hj hk hlt hab
    exact absurd (h j k _ _ (List.getElem?_eq_getElem hj) (List.getElem?_eq_getElem hk) hab) hlt.ne

theorem distinct_eq_true {α : Type} [DecidableEq α] {l : List α} : distinct l = true ↔ l.Nodup := by
  induction l with
  | nil => simp [distinct]
  | cons x xs ih => simp [distinct, ih]

/-- A list's elements with their neighbours are its places with the places beside them. -/
theorem withNeighbours_getElem? (left : Option Instr) (ops : List Instr) (k : Nat) :
    (withNeighbours left ops)[k]? =
      ops[k]?.map fun i => (if k = 0 then left else ops[k - 1]?, i, ops[k + 1]?) := by
  induction ops generalizing left k with
  | nil => rfl
  | cons i rest ih =>
    cases k with
    | zero => simp [withNeighbours, List.head?_eq_getElem?]
    | succ k => cases k <;> simp [withNeighbours, ih]

/-- No operation with its neighbours fails a check exactly when no place does. -/
theorem not_any_withNeighbours_iff {ops : List Instr} {p : Option Instr × Instr × Option Instr → Bool} :
    ¬ (withNeighbours none ops).any p = true ↔
      ∀ k i, ops[k]? = some i → p (if k = 0 then none else ops[k - 1]?, i, ops[k + 1]?) = false := by
  rw [not_any_iff]
  refine forall_congr' fun k => ⟨fun h i hi => h _ ?_, fun h x hx => ?_⟩
  · rw [withNeighbours_getElem?, hi]
    rfl
  · rw [withNeighbours_getElem?] at hx
    obtain ⟨i, hi, rfl⟩ := Option.map_eq_some_iff.mp hx
    exact h i hi

theorem not_any_zipIdx_iff {ops : List Instr} {p : Instr × Nat → Bool} :
    ¬ ops.zipIdx.any p = true ↔ ∀ k i, ops[k]? = some i → p (i, k) = false := by
  simp only [Bool.not_eq_true, List.any_eq_false, List.mem_zipIdx_iff_getElem?, Prod.forall]
  exact ⟨fun h k i hi => by simpa using h i k hi, fun h i k hi => by simpa using h k i hi⟩

/-! ### The rules -/

/-- Syllable `k` stands at an odd word address exactly when bit 2 of its address is set. -/
theorem oddWord_eq (pc : Word) (k : Nat) : oddWord pc k = (pc + BitVec.ofNat 32 (4 * k)).getLsbD 2 := by
  have hdiv (x : Nat) : (x + 4 * k) / 4 = x / 4 + k := by omega
  rw [oddWord, BitVec.getLsbD, BitVec.getLsbD, Nat.testBit_eq_decide_div_mod_eq, Nat.testBit_eq_decide_div_mod_eq,
    BitVec.toNat_add, BitVec.toNat_ofNat, Bool.eq_iff_iff]
  simp only [bne_iff_ne, ne_eq, decide_eq_decide, decide_eq_true_eq]
  omega

theorem firstOnly_iff {ops : List Instr} : ¬ (ops.tail.any fun i => (opInfo i).firstOnly) = true ↔
    ∀ (k : Nat) (i : Instr), ops[k]? = some i → (opInfo i).firstOnly = true → k = 0 := by
  rw [not_any_iff]
  constructor
  · intro h k i hi hfirst
    cases k with
    | zero => rfl
    | succ k => cases (h k i (List.getElem?_tail.trans hi)).symm.trans hfirst
  · intro h k i hi
    exact Bool.eq_false_of_not_eq_true fun hfirst =>
      Nat.succ_ne_zero k (h (k + 1) i (List.getElem?_tail.symm.trans hi) hfirst)

theorem multiply_iff {pc : Word} {ops : List Instr} :
    ¬ (ops.zipIdx.any fun x => (opInfo x.1).multiply && !oddWord pc x.2) = true ↔
      ∀ (k : Nat) (i : Instr), ops[k]? = some i → (opInfo i).multiply = true →
        (pc + BitVec.ofNat 32 (4 * k)).getLsbD 2 = true := by
  simp only [not_any_zipIdx_iff, oddWord_eq, Bool.and_eq_false_imp, Bool.not_eq_false']

/-- At most one member passes a check exactly when no two do. -/
theorem not_one_lt_length_filter_iff {α : Type} {l : List α} {p : α → Bool} :
    ¬ 1 < (l.filter p).length ↔ l.Pairwise fun a b => ¬ (p a = true ∧ p b = true) := by
  have hfalse (m : List α) : ¬ 1 < m.length ↔ m.Pairwise fun _ _ => False := by
    match m with
    | [] => simp
    | [_] => simp
    | _ :: _ :: _ => simp only [List.pairwise_cons, List.mem_cons, List.length_cons]; grind
  rw [hfalse, List.pairwise_filter]
  exact ⟨List.Pairwise.imp fun h hab => h hab.1 hab.2, List.Pairwise.imp fun h ha hb => h ⟨ha, hb⟩⟩

theorem loadStore_iff {ops : List Instr} : ¬ 1 < (ops.filter fun i => (opInfo i).loadStore).length ↔
    ∀ (j k : Nat) (i i' : Instr), ops[j]? = some i → ops[k]? = some i' → (opInfo i).loadStore = true →
      (opInfo i').loadStore = true → j = k := by
  rw [not_one_lt_length_filter_iff, pairwise_not_iff fun _ _ h => h.symm]
  simp only [and_imp]

/-- Two operations write one register that `keep` does not leave out. -/
def WriteTogether {α : Type} (f : Instr → Option α) (keep : α → Prop) (i i' : Instr) : Prop :=
  ∃ d, f i = some d ∧ f i' = some d ∧ keep d

theorem WriteTogether.symm {α : Type} {f : Instr → Option α} {keep : α → Prop} {i i' : Instr}
    (h : WriteTogether f keep i i') : WriteTogether f keep i' i := by
  obtain ⟨d, hi, hi', hd⟩ := h
  exact ⟨d, hi', hi, hd⟩

/-- The registers `f` names in a bundle are distinct exactly when no two places name one. -/
theorem nodup_filterMap_iff {α : Type} {f : Instr → Option α} {keep : α → Bool} {ops : List Instr} :
    ((ops.filterMap f).filter keep).Nodup ↔
      ∀ (j k : Nat) (i i' : Instr) d, ops[j]? = some i → ops[k]? = some i' → f i = some d → f i' = some d →
        keep d = true → j = k := by
  have hpairs : ((ops.filterMap f).filter keep).Nodup ↔
      ops.Pairwise fun i i' => ¬ WriteTogether f (keep · = true) i i' := by
    rw [List.Nodup, List.pairwise_filter, List.pairwise_filterMap]
    exact List.Pairwise.iff fun i i' => by unfold WriteTogether; grind
  rw [hpairs, pairwise_not_iff fun _ _ h => h.symm]
  exact ⟨fun h j k i i' d hj hk hi hi' hd => h j k i i' hj hk ⟨d, hi, hi', hd⟩,
    fun h j k i i' hj hk ⟨d, hi, hi', hd⟩ => h j k i i' d hj hk hi hi' hd⟩

theorem destinations_iff {ops : List Instr} : ¬ (!distinct (destinations ops)) = true ↔
    ∀ (j k : Nat) (i i' : Instr) d, ops[j]? = some i → ops[k]? = some i' → (opInfo i).dest = some d →
      (opInfo i').dest = some d → d ≠ 0#6 → j = k := by
  rw [Bool.not_eq_true, Bool.not_eq_false', distinct_eq_true, destinations, nodup_filterMap_iff]
  simp only [bne_iff_ne]

theorem branchDestinations_iff {ops : List Instr} : ¬ (!distinct (branchDestinations ops)) = true ↔
    ∀ (j k : Nat) (i i' : Instr) b, ops[j]? = some i → ops[k]? = some i' → (opInfo i).bdest = some b →
      (opInfo i').bdest = some b → j = k := by
  rw [Bool.not_eq_true, Bool.not_eq_false', distinct_eq_true, branchDestinations, ← List.filter_true (ops.filterMap _),
    nodup_filterMap_iff]
  simp only [true_imp_iff]

theorem wf_iff {ops : List Instr} : ¬ (ops.any fun i => !i.wf) = true ↔
    ∀ (k : Nat) (i : Instr), ops[k]? = some i → i.wf = true := by
  simp only [not_any_iff, Bool.not_eq_false']

theorem alone_iff {ops : List Instr} :
    ¬ (decide (1 < ops.length) && ops.any fun i => (opInfo i).alone) = true ↔
      ∀ (k : Nat) (i : Instr), ops[k]? = some i → (opInfo i).alone = true → ops.length = 1 := by
  rw [Bool.and_eq_true, decide_eq_true_eq, not_and, not_any_iff]
  constructor
  · intro h k i hi halone
    by_contra hlen
    obtain ⟨hk, -⟩ := List.getElem?_eq_some_iff.mp hi
    cases (h (by omega) k i hi).symm.trans halone
  · intro h hlen k i hi
    exact Bool.eq_false_of_not_eq_true fun halone => by
      have := h k i hi halone
      omega

/-! ### Extensions -/

theorem immrValue_eq_some {i : Instr} {v : BitVec 23} : immrValue i = some v ↔ i = .immr v := by
  unfold immrValue
  split <;> simp_all

theorem immlValue_eq_some {i : Instr} {v : BitVec 23} : immlValue i = some v ↔ i = .imml v := by
  unfold immlValue
  split <;> simp_all

theorem takesExtension_eq_true {i : Option Instr} :
    takesExtension i = true ↔ ∃ j, i = some j ∧ (opInfo j).extendable = true := by
  cases i <;> simp [takesExtension]

/-- A syllable passes both checks on extensions when, if it is one, it stands at an even word beside an operation that
can be extended. -/
theorem extension_checks_iff {odd : Bool} {left right : Option Instr} {i : Instr} :
    (isExtension i && odd) = false ∧ extensionPlaced left i right = true ↔
      (∀ v, i = .imml v → odd = false ∧ takesExtension left = true)
        ∧ ∀ v, i = .immr v → odd = false ∧ takesExtension right = true := by
  simp only [isExtension, extensionPlaced, ← immlValue_eq_some, ← immrValue_eq_some]
  cases immlValue i <;> cases immrValue i <;> simp
  tauto

theorem extensions_iff {pc : Word} {ops : List Instr} :
    (¬ (ops.zipIdx.any fun x => isExtension x.1 && oddWord pc x.2) = true
      ∧ ¬ ((withNeighbours none ops).any fun x => !extensionPlaced x.1 x.2.1 x.2.2) = true) ↔
    (∀ (k : Nat) v, ops[k]? = some (.imml v) → (pc + BitVec.ofNat 32 (4 * k)).getLsbD 2 = false
        ∧ 0 < k ∧ ∃ i, ops[k - 1]? = some i ∧ (opInfo i).extendable = true)
      ∧ ∀ (k : Nat) v, ops[k]? = some (.immr v) → (pc + BitVec.ofNat 32 (4 * k)).getLsbD 2 = false
        ∧ ∃ i, ops[k + 1]? = some i ∧ (opInfo i).extendable = true := by
  have hplaces : (∀ (k : Nat) i, ops[k]? = some i → (isExtension i && oddWord pc k) = false
      ∧ extensionPlaced (if k = 0 then none else ops[k - 1]?) i ops[k + 1]? = true) ↔ _ :=
    forall_congr' fun k => forall_congr' fun i => imp_congr_right fun _ => extension_checks_iff
  have hleft (k : Nat) : takesExtension (if k = 0 then none else ops[k - 1]?) = true ↔
      0 < k ∧ ∃ i, ops[k - 1]? = some i ∧ (opInfo i).extendable = true := by
    rw [takesExtension_eq_true]
    cases k <;> simp
  rw [not_any_zipIdx_iff, not_any_withNeighbours_iff]
  simp only [hleft, takesExtension_eq_true, oddWord_eq] at hplaces
  simp only [Bool.not_eq_false', oddWord_eq]
  constructor
  · rintro ⟨heven, hplaced⟩
    have h := hplaces.mp fun k i hi => ⟨heven k i hi, hplaced k i hi⟩
    exact ⟨fun k v hk => (h k _ hk).1 v rfl, fun k v hk => (h k _ hk).2 v rfl⟩
  · rintro ⟨himml, himmr⟩
    have h := hplaces.mpr fun k i hi => ⟨fun v hv => himml k v (hv ▸ hi), fun v hv => himmr k v (hv ▸ hi)⟩
    exact ⟨fun k i hi => (h k i hi).1, fun k i hi => (h k i hi).2⟩

theorem twoExtensions_iff {ops : List Instr} :
    ¬ ((withNeighbours none ops).any fun x =>
        (x.1.bind immrValue).isSome && (x.2.2.bind immlValue).isSome) = true ↔
      ∀ (k : Nat) v u, ¬ (ops[k]? = some (.immr v) ∧ ops[k + 2]? = some (.imml u)) := by
  rw [not_any_withNeighbours_iff]
  constructor
  · rintro h k v u ⟨hv, hu⟩
    obtain ⟨hlt, -⟩ := List.getElem?_eq_some_iff.mp hu
    have hmid := h (k + 1) _ (List.getElem?_eq_getElem (by omega))
    simp [hv, hu, immrValue, immlValue] at hmid
  · intro h k i hi
    cases k with
    | zero => simp
    | succ k =>
      refine Bool.eq_false_of_not_eq_true fun hboth => ?_
      simp only [Nat.add_one_ne_zero, if_false, Nat.add_sub_cancel, Bool.and_eq_true, Option.isSome_iff_exists,
        Option.bind_eq_some_iff, immrValue_eq_some, immlValue_eq_some] at hboth
      obtain ⟨⟨v, _, hv, rfl⟩, u, _, hu, rfl⟩ := hboth
      exact h k v u ⟨hv, hu⟩

/-! ### What the rules ask of each operation -/

/-- Each field lists operations whose properties `opInfo` gives by definition. -/
theorem operationProperties : OperationProperties := by
  constructor
  case prginspg | prgins | sync | rfi | syscall | traps | calls | jumps => and_intros <;> intros <;> rfl
  all_goals
    simp only [List.forall_mem_cons, List.not_mem_nil, false_imp_iff, implies_true, and_true]
    and_intros <;> intros <;> rfl

/-- A load of less than a word. -/
def isPartWordLoad : Instr → Bool
  | .ldh _ _ _ => true
  | .ldhD _ _ _ => true
  | .ldhu _ _ _ => true
  | .ldhuD _ _ _ => true
  | .ldb _ _ _ => true
  | .ldbD _ _ _ => true
  | .ldbu _ _ _ => true
  | .ldbuD _ _ _ => true
  | _ => false

/-- The operations with a destination that cannot be R63 are the multiplies and the part-word loads (30 R226). -/
theorem noLinkDest_eq (i : Instr) :
    i.noLinkDest = if (opInfo i).multiply || isPartWordLoad i then (opInfo i).dest else none := by
  cases i <;> rfl

theorem isPartWordLoad_iff {i : Instr} {d : RegNum} (hd : (opInfo i).dest = some d) : isPartWordLoad i = true ↔
    ∃ op ∈ [Instr.ldh, .ldhD, .ldhu, .ldhuD, .ldb, .ldbD, .ldbu, .ldbuD], ∃ s1 k, i = op d s1 k := by
  constructor
  · intro h
    unfold isPartWordLoad at h
    split at h
    case h_9 => cases h
    all_goals cases hd; simp
  · simp only [List.exists_mem_cons_iff, List.not_mem_nil, false_and, exists_false, or_false]
    rintro (h | h | h | h | h | h | h | h)
    all_goals obtain ⟨_, _, rfl⟩ := h; rfl

theorem wf_eq_false {i : Instr} : i.wf = false ↔ (opInfo i).dest = some 63#6 ∧ ((opInfo i).multiply = true
    ∨ ∃ op ∈ [Instr.ldh, .ldhD, .ldhu, .ldhuD, .ldb, .ldbD, .ldbu, .ldbuD], ∃ s1 k, i = op 63#6 s1 k) := by
  have hwf : i.wf = false ↔ (opInfo i).dest = some 63#6 ∧ ((opInfo i).multiply || isPartWordLoad i) = true := by
    rw [Instr.wf, noLinkDest_eq]
    cases (opInfo i).multiply || isPartWordLoad i <;> cases (opInfo i).dest <;> simp [linkReg]
  rw [hwf, Bool.or_eq_true]
  exact and_congr_right fun hd => or_congr_right (isPartWordLoad_iff hd)

/-- Settles O7. -/
theorem legalBundlesAreThoseOfTheRules : Obligations.LegalBundlesAreThoseOfTheRules := by
  refine ⟨fun pc ws ops => decodeBundle_eq_ok, fun pc ops => ?_, operationProperties, fun i => wf_eq_false⟩
  simp only [bundleFlaw, ite_some_eq_none_iff, and_true]
  rw [firstOnly_iff, multiply_iff, twoExtensions_iff, loadStore_iff, destinations_iff, branchDestinations_iff, wf_iff,
    alone_iff]
  refine and_congr_right fun _ => and_congr_right fun _ => ?_
  rw [← and_assoc, extensions_iff, and_assoc]

end Sys2Proof.Machine
end

section
/-! Word loads and stores of control registers (20 R128, R129; 10 R40 to R73; 61 R643, R644): each is the effect of
one register, and the values the registers read as. -/

namespace Sys2Proof.Machine

/-! ### The effect of an access to a control register -/

/-- Every register is open to supervisor mode (10 R41). -/
theorem State.access_supervisor {s : State} (hu : s.userMode = false) (r : CReg) : s.access r ≠ .na := by
  rw [State.access, hu]
  cases r <;> simp [CReg.supervisorAccess]

/-- A port whose PRIV is 1 opens SDIi_READY in either mode (61 R641). -/
theorem State.access_sdiReady {s : State} {r : CReg}
    (h : s.userMode = true → ∃ p, r = .sdiReady p ∧ (s.sdiPort p).priv = 1#2) : s.access r ≠ .na := by
  cases hu : s.userMode with
  | false => exact State.access_supervisor hu r
  | true =>
    obtain ⟨p, rfl, hp⟩ := h hu
    simp [State.access, hu, State.userAccess, SdiPort.userAccess, hp]

/-- A port whose PRIV is 1 opens SDIi_DATA in either mode (61 R641). -/
theorem State.access_sdiData {s : State} {p : Fin 4} (h : s.userMode = true → (s.sdiPort p).priv = 1#2) :
    s.access (.sdiData p) ≠ .na := by
  cases hu : s.userMode with
  | false => exact State.access_supervisor hu _
  | true => simp [State.access, hu, State.userAccess, SdiPort.userAccess, h hu]

section Access

variable {s : State} {s1 : RegNum} {i : BitVec 9} {r : CReg}

theorem exec_ldw_creg (d : RegNum) (hb : s.dbreakHit (s.gpr s1 + s.imm i) = false)
    (hc : isCRegSpace (s.gpr s1 + s.imm i) = true) (hr : cregAt (s.gpr s1 + s.imm i) = some r)
    (haccess : s.access r ≠ .na) : exec (.ldw d s1 i) s = issue (s.cregLoad r d) s := by
  rw [exec_ldw, State.loadBy, State.accessEffect_creg hb hc hr haccess]

theorem exec_stw_creg (s2 : RegNum) (hb : s.dbreakHit (s.gpr s1 + s.imm i) = false)
    (hc : isCRegSpace (s.gpr s1 + s.imm i) = true) (hr : cregAt (s.gpr s1 + s.imm i) = some r)
    (haccess : s.access r ≠ .na) : exec (.stw s1 i s2) s = issue (s.cregStore r (s.gpr s2)) s := by
  rw [exec_stw, State.storeBy, State.accessEffect_creg hb hc hr haccess]

/-- A word store to a control register that need not wait moves past the bundle and changes that register. -/
theorem completes_stw_creg {P : State → Prop} {s2 : RegNum} (halone : s.alone)
    (hb : s.dbreakHit (s.gpr s1 + s.imm i) = false) (hc : isCRegSpace (s.gpr s1 + s.imm i) = true)
    (hr : cregAt (s.gpr s1 + s.imm i) = some r) (haccess : s.access r ≠ .na) (hstall : s.storeStall r = none)
    (hP : P ((s.advance [s.cregStore r (s.gpr s2)]).storeCreg r (s.gpr s2))) : Completes (.stw s1 i s2) s P :=
  completes_of_issue (exec_stw_creg s2 hb hc hr haccess) halone rfl hstall hP

/-- A word load of a control register without a read side effect writes its value. -/
theorem completes_ldw_creg {d : RegNum} (halone : s.alone) (hb : s.dbreakHit (s.gpr s1 + s.imm i) = false)
    (hc : isCRegSpace (s.gpr s1 + s.imm i) = true) (hr : cregAt (s.gpr s1 + s.imm i) = some r)
    (haccess : s.access r ≠ .na) (hlfsr : r ≠ .tlbReplace) (hdata : ∀ p, r ≠ .sdiData p) :
    Completes (.ldw d s1 i) s (WritesGpr d (s.cregValue r) s) := by
  have hload : s.cregLoad r d = { kind := .loadStore, writes := [.gpr d (s.cregValue r)] } := by
    cases r with
    | tlbReplace => exact absurd rfl hlfsr
    | sdiData p => exact absurd rfl (hdata p)
    | _ => rfl
  exact completes_writesGpr ((exec_ldw_creg d hb hc hr haccess).trans (congrArg (issue · s) hload)) halone

end Access

/-! ### Register values -/

theorem versionWord_toNat (p : Params) :
    (versionWord p).toNat = p.dsuVersion.toNat * 2 ^ 24 + 5 * 2 ^ 16 + p.productId.toNat := by
  rw [versionWord, toNat_append_eq_add, toNat_append_eq_add, BitVec.toNat_ofNat]
  omega

/-- SDIi_READY reads 0 or a count of transfers that will not stall (61 R646; assumption 18). -/
theorem State.sdiReadyValue_le {s : State} {p : Fin 4} (h : s.sdiInReset p = false) :
    (s.sdiReadyValue p).toNat ≤ s.sdiAvailable p := by
  have hlt := Nat.mod_lt (Config.sdiReadyReport s.oracle) (Nat.succ_pos (s.sdiAvailable p))
  simp only [State.sdiReadyValue, h, Bool.false_eq_true, if_false]
  split
  · exact Nat.zero_le _
  · exact (Nat.mod_le _ _).trans (Nat.le_of_lt_succ hlt)

theorem State.sdiReadyValue_least {s : State} {p : Fin 4} (h : s.sdiInReset p = false)
    (hmax : s.sdiAvailable p < 2 ^ 32) :
    s.sdiReadyValue p = 0#32 ∨ (s.sdiParams p).readyMin ≤ (s.sdiReadyValue p).toNat := by
  have hlt := Nat.mod_lt (Config.sdiReadyReport s.oracle) (Nat.succ_pos (s.sdiAvailable p))
  simp only [State.sdiReadyValue, h, Bool.false_eq_true, if_false]
  split
  · exact .inl rfl
  · next hmin =>
    right
    rw [BitVec.toNat_ofNat, Nat.mod_eq_of_lt (hlt.trans_le hmax)]
    exact Nat.le_of_not_lt hmin

theorem deviceRegisterValues (s : State) : DeviceRegisterValues s where
  scuBase k := by
    show ((s.mmu.scuBase.get k).setWidth 32).toNat = _
    exact BitVec.toNat_setWidth_of_le (by decide)
  scuLimit k := by
    show ((s.mmu.scuLimit.get k).setWidth 32).toNat = _
    exact BitVec.toNat_setWidth_of_le (by decide)
  pmEnb := by
    show s.pm.crValue.getLsbD 0 = _
    simp [-Nat.reduceAdd, -BitVec.getLsbD_eq_getElem, Perf.crValue, BitVec.getLsbD_append]
  pmRst := by
    show s.pm.crValue.getLsbD 1 = _
    simp [-Nat.reduceAdd, -BitVec.getLsbD_eq_getElem, Perf.crValue, BitVec.getLsbD_append]
  pmIdle := by
    show s.pm.crValue.getLsbD 2 = _
    simp [-Nat.reduceAdd, -BitVec.getLsbD_eq_getElem, Perf.crValue, BitVec.getLsbD_append]
  pmReserved := by
    show s.pm.crValue.extractLsb' 3 9 = _
    simp [-Nat.reduceAdd, Perf.crValue, BitVec.extractLsb'_append_eq_of_le, BitVec.extractLsb'_append_eq_of_add_le]
  pmEvent k := by
    show s.pm.crValue.extractLsb' _ 5 = _
    match k with
    | 0 | 1 | 2 | 3 =>
      simp [-Nat.reduceAdd, Perf.crValue, BitVec.extractLsb'_append_eq_of_le, BitVec.extractLsb'_append_eq_of_add_le]
  pmCnt k := rfl
  pmPclk := rfl
  sdiControl p := by
    show (s.sdiControlValue p).toNat = _
    simp only [State.sdiControlValue, toNat_append_eq_add, BitVec.toNat_ofBool]
    have : s.sdiResetInput p = s.pins.sdiReset.get p := rfl
    rw [this, BitVec.toNat_ofNat, BitVec.toNat_ofNat]
    omega
  sdiCount p := rfl
  sdiTimeout p := rfl
  sdiReadyInput p h hin := by
    have hle := State.sdiReadyValue_le h
    rwa [State.sdiAvailable, if_pos hin] at hle
  sdiReadyOutput p h hout := by
    have hle := State.sdiReadyValue_le h
    rwa [State.sdiAvailable, hout] at hle
  sdiReadyLeast p h hqueue hdepth := by
    refine State.sdiReadyValue_least h ?_
    rw [State.sdiAvailable]
    split <;> omega

/-- Settles O44. -/
theorem controlRegisterLoads : Obligations.ControlRegisterLoads := by
  refine ⟨fun s d s1 i r halone huser hb hc hr hlfsr hdata =>
    completes_ldw_creg halone hb hc hr (State.access_sdiReady huser) hlfsr hdata, fun s => ⟨rfl, ?_, ?_, ?_, ?_, ?_, ?_,
    rfl, rfl, fun _ => rfl, deviceRegisterValues s⟩⟩
  · show (1#32 <<< s.trap.excauseno.toNat).toNat = _
    have hlt : 1 <<< s.trap.excauseno.toNat < 2 ^ 32 :=
      (Nat.one_shiftLeft _).trans_lt (Nat.pow_lt_pow_right Nat.one_lt_two s.trap.excauseno.isLt)
    exact (Nat.mod_eq_of_lt hlt).trans (Nat.one_shiftLeft _)
  · exact versionWord_toNat s.cfg
  · exact peripheralBase_toNat s.cfg
  · exact BitVec.toNat_setWidth_of_le (by decide)
  · exact BitVec.toNat_setWidth_of_le (by decide)
  · exact BitVec.toNat_setWidth_of_le (by decide)

end Sys2Proof.Machine
end

section
/-! Word stores to control registers (20 R129; 10 R42 to R73): what each register takes of the stored word, and that
every other register keeps its value. -/

namespace Sys2Proof.Machine

/-! ### The writable bits -/

/-- The low `n` bits of a word, read back as a word, are the word under the mask of those bits. -/
theorem setWidth_extractLsb'_zero (v : Word) (n : Nat) :
    (v.extractLsb' 0 n).setWidth 32 = v &&& (BitVec.allOnes n).setWidth 32 := by
  refine BitVec.eq_of_getLsbD_eq fun i hi => ?_
  simp [-BitVec.getLsbD_eq_getElem, BitVec.getLsbD_extractLsb', hi, Bool.and_comm]

theorem State.selectedEntry_setSelectedEntry (s : State) (e : UtlbEntry) : (s.setSelectedEntry e).selectedEntry = e :=
  Vector.getElem_set_self s.mmu.tlbIndex.isLt

theorem vector_get_set_of_ne {α : Type} {n : Nat} (v : Vector α n) {i j : Fin n} (x : α) (h : j ≠ i) :
    (v.set i.val x i.isLt).get j = v.get j :=
  Vector.getElem_set_ne _ _ (fun he => h (Fin.ext he.symm))

theorem and_allOnes_word (v : Word) : v = v &&& 0xFFFFFFFF#32 := (BitVec.and_allOnes).symm

/-- A load after a store returns the writable bits. -/
theorem State.cregValue_storeCreg (u : State) (v : Word) : ∀ x ∈ trapRegisterMasks ++ debugRegisterMasks,
    (u.storeCreg x.1 v).cregValue x.1 = v &&& x.2 := by
  have hall := and_allOnes_word v
  have hlow := setWidth_extractLsb'_zero v
  have hentry (e : UtlbEntry) : (u.setSelectedEntry e).selectedEntry = e := u.selectedEntry_setSelectedEntry e
  simp only [trapRegisterMasks, debugRegisterMasks, List.cons_append, List.nil_append, List.forall_mem_cons,
    List.not_mem_nil, false_imp_iff, implies_true, and_true]
  exact ⟨hall, hall, hall, hall, hall, hall, hall, hall, hall, hall, hlow 5,
    (congrArg (fun e => e.word0.setWidth 32) (hentry _)).trans (hlow 25),
    (congrArg (fun e => e.vaddr.setWidth 32) (hentry _)).trans (hlow 19),
    (congrArg (fun e => e.paddr.setWidth 32) (hentry _)).trans (hlow 19), rfl, hlow 8, hall, hall, hlow 4, hall, hall,
    hlow 4, hlow 2⟩

section SelectedEntry

variable (u : State)

theorem State.cregValue_setSelectedEntry_word0 (e : UtlbEntry) :
    (u.setSelectedEntry e).cregValue .tlbEntry0 = e.word0.setWidth 32 :=
  congrArg (fun e => e.word0.setWidth 32) (u.selectedEntry_setSelectedEntry e)

theorem State.cregValue_setSelectedEntry_vaddr (e : UtlbEntry) :
    (u.setSelectedEntry e).cregValue .tlbEntry1 = e.vaddr.setWidth 32 :=
  congrArg (fun e => e.vaddr.setWidth 32) (u.selectedEntry_setSelectedEntry e)

theorem State.cregValue_setSelectedEntry_paddr (e : UtlbEntry) :
    (u.setSelectedEntry e).cregValue .tlbEntry2 = e.paddr.setWidth 32 :=
  congrArg (fun e => e.paddr.setWidth 32) (u.selectedEntry_setSelectedEntry e)

theorem State.storeCreg_tlbEntry0 (v : Word) :
    u.storeCreg .tlbEntry0 v = u.setSelectedEntry { u.selectedEntry with word0 := v.extractLsb' 0 25 } := rfl

theorem State.storeCreg_tlbEntry1 (v : Word) :
    u.storeCreg .tlbEntry1 v = u.setSelectedEntry { u.selectedEntry with vaddr := v.extractLsb' 0 19 } := rfl

theorem State.storeCreg_tlbEntry2 (v : Word) :
    u.storeCreg .tlbEntry2 v = u.setSelectedEntry { u.selectedEntry with paddr := v.extractLsb' 0 19 } := rfl

end SelectedEntry

/-- A store to one of the registers leaves each other one as it reads: they are different fields. -/
theorem State.cregValue_storeCreg_other (u : State) (v : Word) : ∀ x ∈ trapRegisterMasks ++ debugRegisterMasks,
    ∀ q ∈ [CReg.psw, .savedPsw, .savedPc, .handlerPc, .exaddress, .savedSavedPsw, .savedSavedPc, .scratch1,
      .scratch2, .scratch3, .scratch4, .excauseno, .tlbIndex, .tlbEntry0, .tlbEntry1, .tlbEntry2, .tlbExcause,
      .tlbReplace, .tlbAsid, .dbreakLower, .dbreakUpper, .dbreakControl, .ibreakLower, .ibreakUpper, .ibreakControl,
      .state1], q ≠ x.1 → (u.storeCreg x.1 v).cregValue q = u.cregValue q := by
  simp only [trapRegisterMasks, debugRegisterMasks, List.cons_append, List.nil_append, List.forall_mem_cons,
    List.not_mem_nil, false_imp_iff, implies_true, and_true]
  and_intros
  all_goals
    simp only [ne_eq, not_true_eq_false, false_imp_iff, State.storeCreg_tlbEntry0, State.storeCreg_tlbEntry1,
      State.storeCreg_tlbEntry2, State.cregValue_setSelectedEntry_word0, State.cregValue_setSelectedEntry_vaddr,
      State.cregValue_setSelectedEntry_paddr]
  all_goals exact fun _ => rfl

/-- Only the trap, memory management and breakpoint registers change, and not the SCU. -/
theorem State.storeCreg_masked_frame (u : State) (v : Word) : ∀ x ∈ trapRegisterMasks ++ debugRegisterMasks,
    { u.storeCreg x.1 v with trap := u.trap, mmu := u.mmu, brk := u.brk } = u
      ∧ (u.storeCreg x.1 v).mmu.scuBase = u.mmu.scuBase ∧ (u.storeCreg x.1 v).mmu.scuLimit = u.mmu.scuLimit
      ∧ u.storeStall x.1 = none := by
  simp only [trapRegisterMasks, debugRegisterMasks, List.cons_append, List.nil_append, List.forall_mem_cons,
    List.not_mem_nil, false_imp_iff, implies_true, and_true]
  and_intros
  all_goals rfl

/-- No store changes an entry of the TLB that TLB_INDEX does not select. -/
theorem State.storeCreg_utlb (u : State) (r : CReg) (v : Word) {k : Fin 64} (h : k ≠ u.mmu.tlbIndex.toFin) :
    (u.storeCreg r v).mmu.utlb.get k = u.mmu.utlb.get k := by
  cases r with
  | tlbEntry0 | tlbEntry1 | tlbEntry2 => exact vector_get_set_of_ne u.mmu.utlb _ h
  | tlbIndex =>
    by_cases hv : v.extractLsb' 6 2 = 0#2 <;> simp [State.storeCreg, hv]
  | sdiData p =>
    obtain ⟨queue, timeout, heq⟩ := u.storeCreg_sdiData p v
    rw [heq]
    rfl
  | _ => rfl

/-- A register that loads only, or that has no bits to write, ignores a store (10 R42, R64, R66). -/
theorem State.storeCreg_readOnly {r : CReg} (hro : r ∈ [CReg.psw, .excause, .version, .peripheralBase, .tlbEntry3,
    .tlbControl] ∨ (∃ k, r = .reserved k) ∨ ∃ p, r = .sdiReady p) (u : State) (v : Word) :
    u.storeCreg r v = u ∧ u.storeStall r = none := by
  simp only [List.mem_cons, List.not_mem_nil, or_false] at hro
  rcases hro with (rfl | rfl | rfl | rfl | rfl | rfl) | ⟨k, rfl⟩ | ⟨p, rfl⟩
  all_goals exact ⟨rfl, rfl⟩

/-- Settles O45. -/
theorem controlRegisterStores : Obligations.ControlRegisterStores := by
  refine ⟨fun s s1 s2 i r mask hmask halone hu hb hc hr => ?_, fun s s1 s2 i r hro halone huser hb hc hr => ?_⟩
  · obtain ⟨-, -, -, hstall⟩ := s.storeCreg_masked_frame 0#32 _ hmask
    refine completes_stw_creg halone hb hc hr (State.access_supervisor hu r) hstall ?_
    have hadvance := s.advance_onlyAdvances [s.cregStore r (s.gpr s2)]
    have hother := State.cregValue_storeCreg_other (s.advance [s.cregStore r (s.gpr s2)]) (s.gpr s2) _ hmask
    obtain ⟨hframe, hbase, hlimit, -⟩ :=
      State.storeCreg_masked_frame (s.advance [s.cregStore r (s.gpr s2)]) (s.gpr s2) _ hmask
    refine ⟨State.cregValue_storeCreg _ _ _ hmask, fun q hq hne => (hother q hq hne).trans ?_, ?_, hbase, hlimit,
      fun k hk => State.storeCreg_utlb _ r _ hk⟩
    · revert q
      simp only [List.forall_mem_cons, List.not_mem_nil, false_imp_iff, implies_true, and_true]
      and_intros
      all_goals exact fun _ => rfl
    · exact hframe.symm ▸ hadvance
  · obtain ⟨hkeep, -⟩ := State.storeCreg_readOnly hro (s.advance [s.cregStore r (s.gpr s2)]) (s.gpr s2)
    obtain ⟨-, hstall⟩ := State.storeCreg_readOnly hro s 0#32
    exact completes_stw_creg halone hb hc hr (State.access_sdiReady huser) hstall
      (hkeep.symm ▸ s.advance_onlyAdvances _)

end Sys2Proof.Machine
end

section
/-! TLB_INDEX and TLB_REPLACE (10 R60, R65; 20 R139, R140), and the period of the LFSR. -/

namespace Sys2Proof.Machine

/-! ### The period of the LFSR -/

/-- A number of LFSR steps, given by the places of its binary digits. -/
theorem lfsrStep_iterate_sum (x : BitVec 16) : ∀ ks : List Nat,
    lfsrStep^[(ks.map (2 ^ ·)).sum] x = ks.foldr (fun k y => linearMap (lfsrPower k) y) x
  | [] => rfl
  | k :: ks => by
    rw [List.map_cons, List.sum_cons, Function.iterate_add_apply, lfsrStep_iterate_sum x ks, lfsrStep_iterate_two_pow]
    rfl

/-- A divisor of `n` that divides none of the numbers `n / p`, `p` a prime divisor of `n`, is `n`. -/
theorem eq_of_dvd_of_not_dvd_div {m n : Nat} (hn : 0 < n) (hm : m ∣ n)
    (h : ∀ p, p.Prime → p ∣ n → ¬ m ∣ n / p) : m = n := by
  obtain ⟨q, rfl⟩ := hm
  by_contra hne
  obtain ⟨p, hp, r, rfl⟩ := Nat.exists_prime_and_dvd (n := q) fun hq => hne (by rw [hq, Nat.mul_one])
  refine h p hp ⟨m * r, by ring⟩ ⟨r, ?_⟩
  rw [show m * (p * r) = p * (m * r) by ring, Nat.mul_div_cancel_left _ hp.pos]

theorem prime_dvd_65535 {p : Nat} (hp : p.Prime) (h : p ∣ 65535) : p = 3 ∨ p = 5 ∨ p = 17 ∨ p = 257 := by
  rw [show 65535 = 3 * 5 * 17 * 257 by rfl, hp.dvd_mul, hp.dvd_mul, hp.dvd_mul,
    Nat.prime_dvd_prime_iff_eq hp (by norm_num), Nat.prime_dvd_prime_iff_eq hp (by norm_num),
    Nat.prime_dvd_prime_iff_eq hp (by norm_num), Nat.prime_dvd_prime_iff_eq hp (by norm_num)] at h
  tauto

/-- From the seed of reset the LFSR returns after 65535 steps. -/
theorem lfsrStep_period : lfsrStep^[65535] 0xFFFF#16 = 0xFFFF#16 :=
  (lfsrStep_iterate_sum 0xFFFF#16 [0, 1, 2, 3, 4, 5, 6, 7, 8, 9, 10, 11, 12, 13, 14, 15]).trans (by decide +kernel)

/-- It does not return after a greatest proper divisor of 65535. -/
theorem lfsrStep_no_shorter_period : lfsrStep^[21845] 0xFFFF#16 ≠ 0xFFFF#16 ∧ lfsrStep^[13107] 0xFFFF#16 ≠ 0xFFFF#16
    ∧ lfsrStep^[3855] 0xFFFF#16 ≠ 0xFFFF#16 ∧ lfsrStep^[255] 0xFFFF#16 ≠ 0xFFFF#16 :=
  ⟨(lfsrStep_iterate_sum 0xFFFF#16 [0, 2, 4, 6, 8, 10, 12, 14]).trans_ne (by decide +kernel),
    (lfsrStep_iterate_sum 0xFFFF#16 [0, 1, 4, 5, 8, 9, 12, 13]).trans_ne (by decide +kernel),
    (lfsrStep_iterate_sum 0xFFFF#16 [0, 1, 2, 3, 8, 9, 10, 11]).trans_ne (by decide +kernel),
    (lfsrStep_iterate_sum 0xFFFF#16 [0, 1, 2, 3, 4, 5, 6, 7]).trans_ne (by decide +kernel)⟩

/-- The least period of the LFSR from the seed of reset. -/
theorem lfsrStep_minimalPeriod : Function.minimalPeriod lfsrStep 0xFFFF#16 = 65535 := by
  obtain ⟨h3, h5, h17, h257⟩ := lfsrStep_no_shorter_period
  refine eq_of_dvd_of_not_dvd_div (by decide) (Function.IsPeriodicPt.minimalPeriod_dvd lfsrStep_period)
    fun p hp hdvd hdiv => ?_
  have hreturns : lfsrStep^[65535 / p] 0xFFFF#16 = 0xFFFF#16 := Function.isPeriodicPt_iff_minimalPeriod_dvd.mpr hdiv
  rcases prime_dvd_65535 hp hdvd with rfl | rfl | rfl | rfl
  · exact h3 hreturns
  · exact h5 hreturns
  · exact h17 hreturns
  · exact h257 hreturns

/-! ### A step of the LFSR -/

theorem lfsrStep_getLsbD (x : BitVec 16) (n : Nat) : (lfsrStep x).getLsbD n =
    if n = 0 then x.getLsbD 3 ^^ x.getLsbD 12 ^^ x.getLsbD 14 ^^ x.getLsbD 15
    else decide (n < 16) && x.getLsbD (n - 1) := by
  rw [lfsrStep, BitVec.getLsbD_append]
  cases n with
  | zero => simp
  | succ n => simp [-BitVec.getLsbD_eq_getElem, BitVec.getLsbD_extractLsb', show n + 1 < 16 ↔ n < 15 by omega]

/-- The places that enter bit 0 are those that leave, so no value but 0 is lost. -/
theorem eq_zero_of_lfsrStep_eq_zero {x : BitVec 16} (h : lfsrStep x = 0#16) : x = 0#16 := by
  have hbit (n : Nat) := (lfsrStep_getLsbD x n).symm.trans (congrArg (·.getLsbD n) h)
  have hlow (n : Nat) (hn : n < 15) : x.getLsbD n = false := by
    simpa [show n + 1 < 16 by omega] using hbit (n + 1)
  have hfeedback := hbit 0
  rw [if_pos rfl, hlow 3 (by decide), hlow 12 (by decide), hlow 14 (by decide)] at hfeedback
  refine BitVec.eq_of_getLsbD_eq fun n hn => ?_
  by_cases h15 : n = 15
  · rw [h15]
    simpa using hfeedback
  · rw [hlow n (by omega)]
    simp

/-! ### The registers -/

theorem extractLsb'_six_two_eq_zero_iff (v : Word) : v.extractLsb' 6 2 = 0#2 ↔ v.toNat % 256 < 64 := by
  rw [← BitVec.toNat_inj, BitVec.extractLsb'_toNat, Nat.shiftRight_eq_div_pow, BitVec.toNat_ofNat]
  omega

/-- TLB_INDEX takes a store of 0 to 63 in the low 8 bits and ignores another (20 R139). -/
theorem State.storeCreg_tlbIndex (u : State) (v : Word) : ∃ x, u.storeCreg .tlbIndex v =
    { u with mmu := { u.mmu with tlbIndex := x } }
    ∧ x.toNat = if v.toNat % 256 < 64 then v.toNat % 256 else u.mmu.tlbIndex.toNat := by
  by_cases h : v.extractLsb' 6 2 = 0#2
  · have hlt := (extractLsb'_six_two_eq_zero_iff v).mp h
    refine ⟨v.extractLsb' 0 6, if_pos h, ?_⟩
    rw [if_pos hlt, BitVec.extractLsb'_toNat, Nat.shiftRight_zero]
    omega
  · exact ⟨u.mmu.tlbIndex, if_neg h, (if_neg (mt (extractLsb'_six_two_eq_zero_iff v).mpr h)).symm⟩

/-- Settles O46. -/
theorem tlbIndexAndReplace : Obligations.TlbIndexAndReplace := by
  refine ⟨fun s s1 s2 i halone hu ha hb => ?_, fun s s1 s2 i halone hu ha hb => ?_, fun s d s1 i halone hu ha hb => ?_,
    lfsrStep_getLsbD, fun x => eq_zero_of_lfsrStep_eq_zero, lfsrStep_period, fun n hpos hlt hreturns => ?_⟩
  · rw [← ha] at hb
    refine completes_stw_creg (r := .tlbIndex) halone hb (ha ▸ by decide) (ha ▸ by decide)
      (State.access_supervisor hu _) rfl ?_
    have hadvance := s.advance_onlyAdvances [s.cregStore .tlbIndex (s.gpr s2)]
    obtain ⟨x, heq, hx⟩ := (s.advance [s.cregStore .tlbIndex (s.gpr s2)]).storeCreg_tlbIndex (s.gpr s2)
    rw [heq]
    exact ⟨hx, rfl, hadvance⟩
  · rw [← ha] at hb
    refine completes_stw_creg (r := .tlbReplace) halone hb (ha ▸ by decide) (ha ▸ by decide)
      (State.access_supervisor hu _) rfl ⟨?_, ?_, rfl, s.advance_onlyAdvances _⟩
    · exact toNat_extractLsb'_zero ..
    · exact (BitVec.extractLsb'_toNat ..).trans (by rw [Nat.shiftRight_eq_div_pow])
  · rw [← ha] at hb
    refine completes_of_issue (exec_ldw_creg (r := .tlbReplace) d hb (ha ▸ by decide) (ha ▸ by decide)
      (State.access_supervisor hu _)) halone rfl rfl ?_
    have hwritten := (s.advance_onlyAdvances [s.cregLoad .tlbReplace d]).setGpr d (s.cregValue .tlbReplace)
    exact ⟨{ hwritten with system := { hwritten.system with mmu := rfl } },
      congrArg (fun m => { m with lfsr := lfsrStep m.lfsr }) hwritten.system.mmu⟩
  · have hper := Function.IsPeriodicPt.minimalPeriod_le hpos hreturns
    rw [lfsrStep_minimalPeriod] at hper
    exact absurd hlt (Nat.not_lt.mpr hper)

end Sys2Proof.Machine
end

section
/-! What the performance monitor counts (61 R680 to R684): the events of a committed operation by its kind, of an
exception entry and of a debug entry. -/

namespace Sys2Proof.Machine

/-! ### Tallies -/

/-- The decided events a committed operation of a kind counts (61 R684). -/
def OpKind.events : OpKind → List Nat
  | .plain => [10, 18]
  | .nop => [10, 18]
  | .loadStore => [10, 11, 18]
  | .branchTaken => [10, 12, 18]
  | .branchNotTaken => [10, 13, 18]
  | .longImmediate => [10, 21]

/-- A tally counts each of the decided events `events` once and no other. -/
def PmTally.CountsOnce (t : PmTally) (events : List Nat) : Prop :=
  ∀ free (ev : BitVec 5), ev.toNat ∈ decidedEvents → eventCount t free ev = if ev.toNat ∈ events then 1 else 0

theorem bundleTally_countsOnce (e : Effect) : (bundleTally [e]).CountsOnce e.kind.events := by
  obtain ⟨kind, raised, stall, writes⟩ := e
  intro free ev hev
  simp only [decidedEvents, List.mem_cons, List.not_mem_nil, or_false] at hev
  cases kind
  all_goals
    rcases hev with h | h | h | h | h | h | h | h | h | h | h | h
    all_goals
      rw [eventCount, h]
      rfl

theorem exceptionTally_countsOnce (c : Cause) :
    (exceptionTally c).CountsOnce (if c = .externInt then [14, 15] else [14]) := by
  intro free ev hev
  simp only [decidedEvents, List.mem_cons, List.not_mem_nil, or_false] at hev
  by_cases hc : c = .externInt
  all_goals
    simp only [exceptionTally, hc, if_true, if_false]
    rcases hev with h | h | h | h | h | h | h | h | h | h | h | h
    all_goals
      rw [eventCount, h]
      rfl

/-! ### Counters -/

/-- Counters that advance by a tally count its events. -/
theorem PmTally.CountsOnce.counts {tally : PmTally} {events : List Nat} (h : tally.CountsOnce events) {s t : State}
    (henb : s.pm.enb = true) (hcnt : t.pm.cnt = (s.pm.advance tally true s.oracle).cnt) : Counts events s t := by
  intro k hdecided
  rw [hcnt, Perf.advance_cnt _ _ _ _ henb, h _ _ hdecided]
  split
  · rfl
  · exact BitVec.add_zero _

/-- Only stores to control registers assign to the counters. -/
theorem applyWrite_cnt {w : Write} (h : ∀ r v, w ≠ .creg r v) (u : State) : (applyWrite u w).pm.cnt = u.pm.cnt := by
  cases w with
  | creg r v => exact absurd rfl (h r v)
  | gpr r v => exact congrArg Perf.cnt (u.setGpr_pm r v)
  | periph r v =>
    obtain ⟨_, _, _, heq⟩ := u.storePeriph_frame r v
    exact congrArg (·.pm.cnt) heq
  | busError => exact congrArg Perf.cnt u.postBusError_pm
  | _ => rfl

theorem ne_creg_of_plain {ws : List Write} (h : ws.all Write.plain = true) : ∀ w ∈ ws, ∀ r v, w ≠ .creg r v := by
  rintro w hw r v rfl
  cases List.all_eq_true.mp h _ hw

theorem applyWrites_cnt {ws : List Write} (h : ∀ w ∈ ws, ∀ r v, w ≠ .creg r v) (u : State) :
    (ws.foldl applyWrite u).pm.cnt = u.pm.cnt := by
  induction ws generalizing u with
  | nil => rfl
  | cons w ws ih =>
    rw [List.forall_mem_cons] at h
    exact (ih h.2 _).trans (applyWrite_cnt h.1 u)

/-- An operation alone in its bundle that assigns to no control register counts the events of its kind. -/
theorem completes_counts {i : Instr} {s : State} {e : Effect} (hexec : exec i s = issue e s) (halone : s.alone)
    (henb : s.pm.enb = true) (hr : e.raised = none) (hs : e.stall = none)
    (hws : ∀ w ∈ e.writes, ∀ r v, w ≠ .creg r v) : Completes i s (Counts e.kind.events s) := by
  refine completes_of_issue hexec halone hr hs ((bundleTally_countsOnce e).counts henb ?_)
  have hpm : e.writes.any Write.storesPmCr = false := by
    rw [List.any_eq_false]
    rintro w hw
    cases w with
    | creg r v => exact absurd rfl (hws _ hw r v)
    | _ => exact Bool.false_ne_true
  rw [applyWrites_cnt hws]
  show (s.pm.advance _ (!(bundleWrites [e]).any Write.storesPmCr) s.oracle).cnt = _
  rw [bundleWrites_single, hpm]
  rfl

/-- An operation alone in its bundle that throws counts an exception. -/
theorem completes_counts_raised {i : Instr} {s : State} {r : Raised} {kind : OpKind}
    (hexec : exec i s = issue { kind := kind, raised := some r } s) (halone : s.alone) (henb : s.pm.enb = true) :
    Completes i s (Counts (if r.cause = .externInt then [14, 15] else [14]) s) := by
  obtain ⟨hissue, hpending⟩ := halone
  refine ⟨_, ?_, (exceptionTally_countsOnce r.cause).counts (t := s.takeException r) henb rfl⟩
  rw [hexec, issue_last _ s hissue hpending, s.finishBundle_raise _ r rfl]

theorem branchEffect_counts (s : State) (taken : Bool) (o : BitVec 23) :
    (s.branchEffect taken o).kind.events = [10, if taken then 12 else 13, 18] := by
  cases taken <;> rfl

theorem completes_counts_branch {i : Instr} {s : State} {taken : Bool} {o : BitVec 23}
    (hexec : exec i s = issue (s.branchEffect taken o) s) (halone : s.alone) (henb : s.pm.enb = true) :
    Completes i s (Counts [10, if taken then 12 else 13, 18] s) := by
  rw [← branchEffect_counts s taken o]
  cases taken with
  | true => exact completes_counts hexec halone henb rfl rfl (by simp [State.branchEffect, jumpEffect])
  | false => exact completes_counts hexec halone henb rfl rfl (by simp [State.branchEffect])

/-- An accepted external interrupt is the cause taken, unless a bus error is due (60 R520; 61 R648). -/
theorem State.highestPriority_externInt {s : State} (hdc : s.dcError ≠ some 0) (hint : s.interruptAccepted = true) :
    highestPriority s.boundaryCauses = some { cause := .externInt } := by
  cases hstalled : s.sdiStalled with
  | true => simp [State.boundaryCauses, hstalled, hint]
  | false =>
    rw [State.boundaryCauses_running hstalled, if_neg hdc, if_pos hint]
    cases s.ibreakHit s.pc <;> rfl

/-! ### The statement -/

theorem operations_count (s : State) (halone : s.alone) (henb : s.pm.enb = true) :
    (∀ d a b, Completes (.addR d a b) s (Counts [10, 18] s))
    ∧ (∀ d s1 i pa, s.reaches .word (s.gpr s1 + s.imm i) pa 1 → Completes (.ldw d s1 i) s (Counts [10, 11, 18] s))
    ∧ (∀ s1 i s2 pa, s.reaches .word (s.gpr s1 + s.imm i) pa 2 → Completes (.stw s1 i s2) s (Counts [10, 11, 18] s))
    ∧ (∀ r o, ∀ i ∈ [Instr.pft r o, .prgset r o, .sync], Completes i s (Counts [10, 11, 18] s))
    ∧ (∀ r o, ∀ i ∈ [Instr.prginspg r o, .pswset r, .pswclr r], s.userMode = false →
      Completes i s (Counts [10, 11, 18] s))
    ∧ (s.userMode = false → Completes .prgins s (Counts [10, 18] s) ∧ Completes .rfi s (Counts [10, 12, 18] s))
    ∧ (∀ o, ∀ i ∈ [Instr.goto o, .gotoLink, .call o, .callLink], Completes i s (Counts [10, 12, 18] s))
    ∧ (∀ c o, Completes (.br c o) s (Counts [10, if s.br c then 12 else 13, 18] s)
      ∧ Completes (.brf c o) s (Counts [10, if s.br c then 13 else 12, 18] s))
    ∧ (∀ v, ∀ i ∈ [Instr.imml v, .immr v], Completes i s (Counts [10, 21] s))
    ∧ (∀ n m, ∀ i ∈ [Instr.sbrk n, .syscall m, .breakOp], Completes i s (Counts [14] s)) := by
  have hlsu {i : Instr} {ws : List Write} (hexec : exec i s = issue (lsuEffect ws) s)
      (hws : ∀ w ∈ ws, ∀ r v, w ≠ .creg r v) : Completes i s (Counts [10, 11, 18] s) :=
    completes_counts hexec halone henb rfl rfl hws
  have hjump {i : Instr} {target : Word} {more : List Write} (hexec : exec i s = issue (jumpEffect target more) s)
      (hws : ∀ w ∈ more, ∀ r v, w ≠ .creg r v) : Completes i s (Counts [10, 12, 18] s) :=
    completes_counts hexec halone henb rfl rfl (List.forall_mem_cons.mpr ⟨fun _ _ => Write.noConfusion, hws⟩)
  have htrap {i : Instr} {c : Cause} (hc : c ≠ .externInt)
      (hexec : exec i s = issue { raised := some { cause := c } } s) : Completes i s (Counts [14] s) := by
    have h := completes_counts_raised hexec halone henb
    rwa [if_neg hc] at h
  simp only [List.forall_mem_cons, List.not_mem_nil, false_imp_iff, implies_true, and_true]
  refine ⟨fun d a b => ?_, fun d s1 i pa h => ?_, fun s1 i s2 pa h => ?_, fun r o => ⟨?_, ?_, ?_⟩,
    fun r o => ⟨fun hu => ?_, fun hu => ?_, fun hu => ?_⟩, fun hu => ⟨?_, ?_⟩, fun o => ⟨?_, ?_, ?_, ?_⟩,
    fun c o => ⟨?_, ?_⟩, fun v => ⟨?_, ?_⟩, fun n m => ⟨?_, ?_, ?_⟩⟩
  · have h := completes_counts (i := .addR d a b) (s := s) rfl halone henb rfl rfl (by simp)
    have hkind : OpKind.events (if d = 0#6 ∧ a = 0#6 ∧ b = 0#6 then .nop else .plain) = [10, 18] := by
      split <;> rfl
    rwa [hkind] at h
  · exact hlsu ((exec_ldw d s1 i s).trans (congrArg (issue · s) (State.loadBy_reaches h _ d)))
      (ne_creg_of_plain (s.memLoadWrites_plain ..))
  · exact hlsu ((exec_stw s1 i s2 s).trans (congrArg (issue · s) (State.storeBy_reaches h _)))
      (ne_creg_of_plain (s.memStoreWrites_plain ..))
  · exact hlsu (ws := []) rfl (by simp)
  · exact hlsu (ws := []) rfl (by simp)
  · exact hlsu (ws := []) rfl (by simp)
  · exact hlsu (congrArg (issue · s) (State.privileged_supervisor hu _)) (by simp)
  · exact hlsu (congrArg (issue · s) (State.privileged_supervisor hu _)) (by simp)
  · exact hlsu (congrArg (issue · s) (State.privileged_supervisor hu _)) (by simp)
  · exact completes_counts (i := .prgins) (e := {}) (congrArg (issue · s) (State.privileged_supervisor hu _)) halone
      henb rfl rfl (by simp)
  · exact completes_counts (i := .rfi) (e := { kind := .branchTaken, writes := [.returnFromException] })
      (congrArg (issue · s) (State.privileged_supervisor hu _)) halone henb rfl rfl (by simp)
  · exact hjump rfl (by split <;> simp)
  · exact hjump rfl (by simp)
  · exact hjump rfl (by simp)
  · exact hjump rfl (by simp)
  · exact completes_counts_branch rfl halone henb
  · have h := completes_counts_branch (i := .brf c o) (taken := !s.br c) rfl halone henb
    cases hc : s.br c <;> simpa [hc] using h
  · exact completes_counts (e := { kind := .longImmediate }) rfl halone henb rfl rfl (by simp)
  · exact completes_counts (e := { kind := .longImmediate }) rfl halone henb rfl rfl (by simp)
  · exact htrap (c := .sbreak) (by decide) rfl
  · exact htrap (c := .syscall) (by decide) rfl
  · exact htrap (c := .illInst) (by decide) rfl

/-- Settles O49. -/
theorem performanceCounters : Obligations.PerformanceCounters := by
  refine ⟨operations_count, fun s r henb => (exceptionTally_countsOnce r.cause).counts henb rfl,
    fun s henb => ⟨fun hd => ?_, fun ws hd hf hdc hint => ?_⟩, fun s henb => ⟨fun es => ?_, fun r => ?_, ?_⟩⟩
  · refine ⟨_, State.runBoundary_debug hd, (exceptionTally_countsOnce .illInst).counts henb ?_⟩
    unfold State.enterDebug
    rfl
  · exact ⟨_, State.runBoundary_cause hd hf (State.highestPriority_externInt hdc hint),
      (exceptionTally_countsOnce .externInt).counts henb rfl⟩
  · exact s.pm.advance_off _ _ s.oracle henb
  · exact s.pm.advance_off _ _ s.oracle henb
  · unfold State.enterDebug
    exact s.pm.advance_off _ _ s.oracle henb

end Sys2Proof.Machine
end

section
/-! Word stores to the SCU, performance monitor and SDI control registers (10 R69, R71; 61 R647, R650, R651, R680,
R682). -/

namespace Sys2Proof.Machine

/-! ### The performance monitor beside a store -/

/-- The counters apart, the performance monitor stays as time passes. -/
theorem Perf.advance_control_eq (p : Perf) (t : PmTally) (c : Bool) (oracle : Nat) :
    { p.advance t c oracle with cnt := p.cnt, pclk := p.pclk } = p := by
  unfold Perf.advance
  split <;> rfl

/-- Beside a store to PM_CR no event is counted (61 R682). -/
theorem Perf.advance_cnt_uncounted (p : Perf) (t : PmTally) (oracle : Nat) :
    (p.advance t false oracle).cnt = p.cnt := by
  unfold Perf.advance
  split <;> rfl

/-- A state whose performance monitor is put back only advances if it did so otherwise. -/
theorem OnlyAdvances.withPm {s t : State} (h : OnlyAdvances s t) : OnlyAdvances s { t with pm := s.pm } :=
  { h with system := { h.system with pmControl := ⟨rfl, rfl, rfl⟩, pmCounters := fun _ => rfl } }

theorem vector_get_set_self {α : Type} {n : Nat} (v : Vector α n) (i : Fin n) (x : α) :
    (v.set i.val x i.isLt).get i = x :=
  Vector.getElem_set_self i.isLt

/-! ### The stores -/

section Stores

variable (s : State)

theorem Perf.storeCr_event (p : Perf) (v : Word) (k : Fin 4) :
    (p.storeCr v).event.get k = v.extractLsb' (12 + 5 * k.val) 5 := by
  fin_cases k <;> rfl

/-- A store to PM_CR (61 R680, R682). -/
theorem State.storeCreg_pmCr (v : Word) {t : State}
    (ht : t = (s.advance [s.cregStore .pmCr v]).storeCreg .pmCr v) :
    t.pm.enb = v.getLsbD 0 ∧ t.pm.idle = (s.pm.idle && !v.getLsbD 2)
      ∧ (∀ k : Fin 4, t.pm.event.get k = v.extractLsb' (12 + 5 * k.val) 5
          ∧ t.pm.cnt.get k = if v.getLsbD 1 then 0#32 else s.pm.cnt.get k)
      ∧ (v.getLsbD 1 = true → t.pm.pclk = 0#32)
      ∧ (v.getLsbD 1 = false → s.pm.enb = false → t.pm.pclk = s.pm.pclk)
      ∧ OnlyAdvances s { t with pm := s.pm } := by
  have hadvance := s.advance_onlyAdvances [s.cregStore .pmCr v]
  have hcnt : (s.advance [s.cregStore .pmCr v]).pm.cnt = s.pm.cnt := s.pm.advance_cnt_uncounted _ s.oracle
  obtain ⟨-, hidle, -⟩ := hadvance.system.pmControl
  have hoff := hadvance.system.pmCounters
  generalize s.advance [s.cregStore .pmCr v] = u at ht hadvance hcnt hidle hoff
  have hpm : t.pm = u.pm.storeCr v := congrArg State.pm ht
  rw [hpm]
  refine ⟨rfl, ?_, fun k => ⟨u.pm.storeCr_event v k, ?_⟩, fun h1 => if_pos h1, fun h1 henb => ?_, ht ▸ hadvance.withPm⟩
  · rw [← hidle]
    cases h : v.getLsbD 2 <;> simp [-BitVec.getLsbD_eq_getElem, Perf.storeCr, h]
  · rw [← hcnt]
    cases h : v.getLsbD 1 <;> simp [-BitVec.getLsbD_eq_getElem, Perf.storeCr, h]
  · rw [← hoff henb]
    simp [-BitVec.getLsbD_eq_getElem, Perf.storeCr, h1]

/-- The counters of a state past a store that is not to PM_CR count the store (61 R684). -/
theorem State.advance_cregStore_counts {r : CReg} (hr : r ≠ .pmCr) (v : Word) (henb : s.pm.enb = true) :
    Counts [10, 11, 18] s (s.advance [s.cregStore r v]) := by
  refine (bundleTally_countsOnce (s.cregStore r v)).counts henb ?_
  cases r with
  | pmCr => exact absurd rfl hr
  | _ => rfl

/-- A store to a counter (61 R680). -/
theorem State.storeCreg_pmCnt (k : Fin 4) (v : Word) {t : State}
    (ht : t = (s.advance [s.cregStore (.pmCnt k) v]).storeCreg (.pmCnt k) v) :
    t.pm.cnt.get k = v
      ∧ (s.pm.enb = false → t.pm = { s.pm with cnt := s.pm.cnt.set k.val v k.isLt })
      ∧ (s.pm.enb = true → ∀ j, j ≠ k → CountsIn j [10, 11, 18] s t)
      ∧ { t.pm with cnt := s.pm.cnt, pclk := s.pm.pclk } = s.pm ∧ OnlyAdvances s { t with pm := s.pm } := by
  have hadvance := s.advance_onlyAdvances [s.cregStore (.pmCnt k) v]
  have hcounts := s.advance_cregStore_counts (r := .pmCnt k) (by simp) v
  have hcontrol : { (s.advance [s.cregStore (.pmCnt k) v]).pm with cnt := s.pm.cnt, pclk := s.pm.pclk } = s.pm :=
    s.pm.advance_control_eq _ _ s.oracle
  have hoff := hadvance.system.pmCounters
  generalize s.advance [s.cregStore (.pmCnt k) v] = u at ht hadvance hcounts hcontrol hoff
  subst ht
  refine ⟨vector_get_set_self u.pm.cnt k v, fun henb => ?_, fun henb j hj hdecided => ?_, hcontrol, hadvance.withPm⟩
  · exact congrArg (fun p : Perf => { p with cnt := p.cnt.set k.val v k.isLt }) (hoff henb)
  · exact (vector_get_set_of_ne u.pm.cnt v hj).trans (hcounts henb j hdecided)

/-- A store to PM_PCLK (61 R680). -/
theorem State.storeCreg_pmPclk (v : Word) {t : State}
    (ht : t = (s.advance [s.cregStore .pmPclk v]).storeCreg .pmPclk v) :
    t.pm.pclk = v ∧ (s.pm.enb = false → t.pm = { s.pm with pclk := v })
      ∧ (s.pm.enb = true → Counts [10, 11, 18] s t)
      ∧ { t.pm with cnt := s.pm.cnt, pclk := s.pm.pclk } = s.pm ∧ OnlyAdvances s { t with pm := s.pm } := by
  have hadvance := s.advance_onlyAdvances [s.cregStore .pmPclk v]
  have hcounts := s.advance_cregStore_counts (r := .pmPclk) (by simp) v
  have hcontrol : { (s.advance [s.cregStore .pmPclk v]).pm with cnt := s.pm.cnt, pclk := s.pm.pclk } = s.pm :=
    s.pm.advance_control_eq _ _ s.oracle
  have hoff := hadvance.system.pmCounters
  generalize s.advance [s.cregStore .pmPclk v] = u at ht hadvance hcounts hcontrol hoff
  subst ht
  exact ⟨rfl, fun henb => congrArg (fun p : Perf => { p with pclk := v }) (hoff henb), hcounts, hcontrol,
    hadvance.withPm⟩

end Stores

/-- Settles O47. -/
theorem deviceControlRegisterStores : Obligations.DeviceControlRegisterStores := by
  intro s s1 s2 i halone hu hb hc
  have hstore {r : CReg} {P : State → Prop} (hr : cregAt (s.gpr s1 + s.imm i) = some r)
      (hstall : s.storeStall r = none)
      (hP : P ((s.advance [s.cregStore r (s.gpr s2)]).storeCreg r (s.gpr s2))) : Completes (.stw s1 i s2) s P :=
    completes_stw_creg halone hb hc hr (State.access_supervisor hu r) hstall hP
  have hlow : (s.gpr s2).extractLsb' 0 19 = (s.gpr s2).setWidth 19 := (BitVec.setWidth_eq_extractLsb' (by decide)).symm
  refine ⟨fun k hr => hstore hr rfl ⟨?_, ?_⟩, fun k hr => hstore hr rfl ⟨?_, ?_⟩,
    fun hr => hstore hr rfl (s.storeCreg_pmCr _ rfl), fun k hr => hstore hr rfl (s.storeCreg_pmCnt k _ rfl),
    fun hr => hstore hr rfl (s.storeCreg_pmPclk _ rfl),
    fun p hr => hstore hr rfl ⟨rfl, s.advance_onlyAdvances _⟩,
    fun p hr => hstore hr rfl ⟨rfl, s.advance_onlyAdvances _⟩,
    fun p hr => hstore hr rfl ⟨?_, s.advance_onlyAdvances _⟩⟩
  · rw [← hlow]
    rfl
  · exact s.advance_onlyAdvances _
  · rw [← hlow]
    rfl
  · exact s.advance_onlyAdvances _
  · have hpriv : (s.gpr s2).extractLsb' 0 2 = (s.gpr s2).setWidth 2 := (BitVec.setWidth_eq_extractLsb' (by decide)).symm
    have hqueue : (if ((s.sdiParams p).isMaster && (s.gpr s2).getLsbD 3 && !(s.sdiPort p).resetOutput) = true then []
        else (s.sdiPort p).queue) = if (s.sdiParams p).isMaster = true ∧ (s.gpr s2).getLsbD 3 = true
          ∧ (s.sdiPort p).resetOutput = false then [] else (s.sdiPort p).queue := by
      simp only [Bool.and_eq_true, Bool.not_eq_true', and_assoc]
    rw [← hpriv, ← hqueue]
    rfl

end Sys2Proof.Machine
end

section
/-! Loads and stores of SDIi_DATA (61 R643 to R650): the transfers, the cycles of a stall, and accesses while the
channel is being reset. -/

namespace Sys2Proof.Machine

/-! ### The cycles of a stall -/

theorem sdiData_address (p : Fin 4) :
    isCRegSpace (sdiDataAddress p) = true ∧ cregAt (sdiDataAddress p) = some (.sdiData p) := by
  fin_cases p <;> decide

/-- Time passes while the bundle at PC waits (61 R648). -/
theorem State.tick_waits (s : State) :
    Waits s { s.tick {} true with sdiStalled := true, idleMode := false, bundle := {} } where
  gprs _ := rfl
  branches _ := rfl
  pc := rfl
  memory _ := rfl
  stalled := rfl
  system :=
    { KeepsSystem.advance s [] with
      pmControl := s.pm.advance_control _ _ s.oracle
      pmCounters := s.pm.advance_off _ _ s.oracle
      bundle := rfl }

section Stall

variable {s : State} {i : Instr} {e : Effect} {p : Fin 4}

theorem completes_of_stall {P : State → Prop} (hexec : exec i s = issue e s) (halone : s.alone) (hr : e.raised = none)
    (hs : e.stall = some p) (hP : P (s.stallCycle p)) : Completes i s P := by
  obtain ⟨hissue, hpending⟩ := halone
  refine ⟨_, ?_, hP⟩
  rw [hexec, issue_last e s hissue hpending, s.finishBundle_stall e p hr hs]

/-- Without a timeout nothing changes but time. -/
theorem State.stallCycle_disabled (h : (s.sdiPort p).timeoutDisable = true) : Waits s (s.stallCycle p) := by
  have hcycle : s.stallCycle p = { s.tick {} true with sdiStalled := true, idleMode := false, bundle := {} } := by
    simp [State.stallCycle, h, State.setSdiPort_self]
  exact hcycle ▸ s.tick_waits

/-- A timeout that has not ended counts down. -/
theorem State.stallCycle_counting (h : (s.sdiPort p).timeoutDisable = false) (htimeout : (s.sdiPort p).timeout ≠ 0#32) :
    Waits s { s.stallCycle p with sdi := s.sdi }
      ∧ (s.stallCycle p).sdiPort p = { s.sdiPort p with timeout := (s.sdiPort p).timeout - 1#32 }
      ∧ ∀ q, q ≠ p → (s.stallCycle p).sdiPort q = s.sdiPort q := by
  have hcycle : s.stallCycle p =
      { (s.setSdiPort p { s.sdiPort p with timeout := (s.sdiPort p).timeout - 1#32 }).tick {} true with
        sdiStalled := true, idleMode := false, bundle := {} } := by
    simp [State.stallCycle, h, htimeout]
  have hport (q : Fin 4) := s.sdiPort_setSdiPort p q { s.sdiPort p with timeout := (s.sdiPort p).timeout - 1#32 }
  rw [hcycle]
  exact ⟨s.tick_waits, (hport p).trans (if_pos rfl), fun q hq => (hport q).trans (if_neg hq)⟩

/-- A timeout that has ended is taken (60 R510). -/
theorem State.stallCycle_timeout (h : (s.sdiPort p).timeoutDisable = false) (htimeout : (s.sdiPort p).timeout = 0#32) :
    Traps .sdiTimeout (sdiDataAddress p) s (s.stallCycle p) := by
  have hcycle : s.stallCycle p = s.takeException { cause := .sdiTimeout, addr := sdiDataAddress p } := by
    simp [State.stallCycle, h, htimeout]
  exact hcycle ▸ s.takeException_traps { cause := .sdiTimeout, addr := sdiDataAddress p } fun _ _ => rfl

end Stall

/-! ### Which accesses wait -/

section Ready

variable {s : State} {p : Fin 4}

theorem State.sdiIsReady_input (h : (s.sdiParams p).isInput = true) :
    s.sdiIsReady p = !(s.sdiPort p).queue.isEmpty := by
  rw [State.sdiIsReady, State.sdiAvailable, if_pos h]
  cases (s.sdiPort p).queue <;> simp

theorem State.sdiIsReady_output (h : (s.sdiParams p).isInput = false) :
    s.sdiIsReady p = decide ((s.sdiPort p).queue.length < (s.sdiParams p).depth) := by
  rw [State.sdiIsReady, State.sdiAvailable, h]
  simp

end Ready

/-! ### The accesses -/

theorem State.sdiPort_congr {s t : State} (h : t.sdi = s.sdi) (q : Fin 4) : t.sdiPort q = s.sdiPort q :=
  congrArg (·.get q) h

/-- Taking the oldest word reloads TIMEOUT (61 R643, R645). -/
theorem WritesGpr.sdiTake {s u : State} {p : Fin 4} {d : RegNum} {v x : Word} {rest : List Word} (h : WritesGpr d v s u)
    (hqueue : (s.sdiPort p).queue = x :: rest) :
    WritesGpr d v s { u.sdiTake p with sdi := s.sdi }
      ∧ (u.sdiTake p).sdiPort p = { s.sdiPort p with queue := rest, timeout := (s.sdiPort p).count }
      ∧ ∀ q, q ≠ p → (u.sdiTake p).sdiPort q = s.sdiPort q := by
  have hport := State.sdiPort_congr h.system.sdi
  have hset (q : Fin 4) := u.sdiPort_setSdiPort p q { u.sdiPort p with
    queue := (u.sdiPort p).queue.tail, timeout := (u.sdiPort p).count }
  refine ⟨{ h with system := { h.system with sdi := rfl } }, (hset p).trans ?_, fun q hq =>
    ((hset q).trans (if_neg hq)).trans (hport q)⟩
  rw [if_pos rfl, hport, hqueue]
  rfl

/-- A write of one port is a change of that port alone. -/
theorem OnlyAdvances.setSdiPort {s u : State} (h : OnlyAdvances s u) (p : Fin 4) (x : SdiPort) :
    OnlyAdvances s { u.setSdiPort p x with sdi := s.sdi } ∧ (u.setSdiPort p x).sdiPort p = x
      ∧ ∀ q, q ≠ p → (u.setSdiPort p x).sdiPort q = s.sdiPort q := by
  refine ⟨{ h with system := { h.system with sdi := rfl } }, ?_, fun q hq => ?_⟩
  · exact (u.sdiPort_setSdiPort p p x).trans (if_pos rfl)
  · exact ((u.sdiPort_setSdiPort p q x).trans (if_neg hq)).trans (State.sdiPort_congr h.system.sdi q)

section Accesses

variable {s : State} {p : Fin 4} {d s1 : RegNum} {i : BitVec 9}

/-- A load that need not wait writes the register's value. -/
theorem completes_sdiLoad {v : Word} (hexec : exec (.ldw d s1 i) s = issue (s.cregLoad (.sdiData p) d) s)
    (halone : s.alone) (hv : s.cregValue (.sdiData p) = v) (hstall : s.loadStall (.sdiData p) = none)
    (hside : s.loadSideEffects (.sdiData p) = []) : Completes (.ldw d s1 i) s (WritesGpr d v s) := by
  refine completes_writesGpr (kind := .loadStore) (hexec.trans (congrArg (issue · s) ?_)) halone
  rw [State.cregLoad, hv, hstall, hside]

/-- A load of an input port with data takes the oldest word (61 R643). -/
theorem completes_sdiTake {v : Word} {rest : List Word}
    (hexec : exec (.ldw d s1 i) s = issue (s.cregLoad (.sdiData p) d) s) (halone : s.alone)
    (hreset : s.sdiInReset p = false) (hin : (s.sdiParams p).isInput = true)
    (hqueue : (s.sdiPort p).queue = v :: rest) :
    Completes (.ldw d s1 i) s (fun t => WritesGpr d v s { t with sdi := s.sdi }
      ∧ t.sdiPort p = { s.sdiPort p with queue := rest, timeout := (s.sdiPort p).count }
      ∧ ∀ q, q ≠ p → t.sdiPort q = s.sdiPort q) := by
  have hload : s.cregLoad (.sdiData p) d = { kind := .loadStore, writes := [.gpr d v, .sdiTake p] } := by
    simp [State.cregLoad, State.cregValue, State.loadStall, State.loadSideEffects, State.sdiIsReady_input, hreset, hin,
      hqueue]
  exact completes_of_issue (e := { kind := .loadStore, writes := [.gpr d v, .sdiTake p] })
    (hload ▸ hexec) halone rfl rfl (((s.advance_onlyAdvances _).setGpr d v).sdiTake hqueue)

/-- A store that need not wait ends in what it does to the port. -/
theorem completes_sdiStore {P : State → Prop}
    (hexec : exec (.stw s1 i d) s = issue (s.cregStore (.sdiData p) (s.gpr d)) s)
    (halone : s.alone) (hstall : s.storeStall (.sdiData p) = none)
    (hP : ∀ t, t = (s.advance [s.cregStore (.sdiData p) (s.gpr d)]).storeCreg (.sdiData p) (s.gpr d) → P t) :
    Completes (.stw s1 i d) s P :=
  completes_of_issue hexec halone rfl hstall (hP _ rfl)

end Accesses

theorem State.storeCreg_sdiData_input {u : State} {p : Fin 4} (h : (u.sdiParams p).isInput = true) (v : Word) :
    u.storeCreg (.sdiData p) v = u := if_pos h

theorem State.storeCreg_sdiData_put {u : State} {p : Fin 4} (hout : (u.sdiParams p).isInput = false)
    (hreset : u.sdiInReset p = false) (v : Word) : u.storeCreg (.sdiData p) v = u.sdiPut p v := by
  simp [State.storeCreg, hout, hreset]

/-- In reset an output port with room takes the word or not (assumption 19). -/
theorem State.storeCreg_sdiData_reset {u : State} {p : Fin 4} (hout : (u.sdiParams p).isInput = false)
    (hreset : u.sdiInReset p = true) (v : Word) : u.storeCreg (.sdiData p) v = u
      ∨ (u.sdiPort p).queue.length < (u.sdiParams p).depth
        ∧ u.storeCreg (.sdiData p) v = u.setSdiPort p { u.sdiPort p with queue := (u.sdiPort p).queue ++ [v] } := by
  by_cases h : (Config.sdiResetAccepts u.oracle && u.sdiIsReady p) = true
  · rw [Bool.and_eq_true, State.sdiIsReady_output hout, decide_eq_true_eq] at h
    exact .inr ⟨h.2, by simp [State.storeCreg, State.sdiIsReady_output, hout, hreset, h]⟩
  · exact .inl (by simp [State.storeCreg, hout, hreset, h])

/-- A store to an input port has no effect (61 R643). -/
theorem completes_sdiStore_input {s : State} {p : Fin 4} {d s1 : RegNum} {i : BitVec 9} (halone : s.alone)
    (hexec : exec (.stw s1 i d) s = issue (s.cregStore (.sdiData p) (s.gpr d)) s)
    (hin : (s.sdiParams p).isInput = true) : Completes (.stw s1 i d) s (OnlyAdvances s) := by
  refine completes_sdiStore hexec halone (by simp [State.storeStall, hin]) fun t ht => ?_
  rw [ht, State.storeCreg_sdiData_input (u := s.advance [s.cregStore (.sdiData p) (s.gpr d)]) hin]
  exact s.advance_onlyAdvances _

/-- An access while the channel is being reset (61 R650; assumption 19). -/
theorem sdiData_inReset {s : State} {p : Fin 4} {d s1 : RegNum} {i : BitVec 9} (halone : s.alone)
    (hload : exec (.ldw d s1 i) s = issue (s.cregLoad (.sdiData p) d) s)
    (hstore : exec (.stw s1 i d) s = issue (s.cregStore (.sdiData p) (s.gpr d)) s) (hreset : s.sdiInReset p = true) :
    Completes (.ldw d s1 i) s (fun t => ∃ v, WritesGpr d v s t)
      ∧ ((s.sdiParams p).isInput = true → Completes (.stw s1 i d) s (OnlyAdvances s))
      ∧ ((s.sdiParams p).isInput = false → Completes (.stw s1 i d) s (fun t =>
        OnlyAdvances s { t with sdi := s.sdi } ∧ (∀ q, q ≠ p → t.sdiPort q = s.sdiPort q)
        ∧ (t.sdiPort p = s.sdiPort p
          ∨ t.sdiPort p = { s.sdiPort p with queue := (s.sdiPort p).queue ++ [s.gpr d] }
            ∧ (s.sdiPort p).queue.length < (s.sdiParams p).depth))) := by
  have hstall : s.storeStall (.sdiData p) = none := by simp [State.storeStall, hreset]
  have hadvance := s.advance_onlyAdvances [s.cregStore (.sdiData p) (s.gpr d)]
  refine ⟨?_, fun hin => ?_, fun hout => ?_⟩
  · obtain ⟨t, hnext, ht⟩ := completes_sdiLoad hload halone rfl (by simp [State.loadStall, hreset])
      (by simp [State.loadSideEffects, hreset])
    exact ⟨t, hnext, _, ht⟩
  · exact completes_sdiStore_input halone hstore hin
  · refine completes_sdiStore hstore halone hstall fun t ht => ?_
    rcases State.storeCreg_sdiData_reset (u := s.advance [s.cregStore (.sdiData p) (s.gpr d)]) hout hreset (s.gpr d)
      with hkeep | ⟨hroom, hput⟩
    · rw [ht.trans hkeep]
      exact ⟨hadvance, fun _ _ => rfl, .inl rfl⟩
    · obtain ⟨honly, hport, hother⟩ := hadvance.setSdiPort p _
      rw [ht.trans hput]
      exact ⟨honly, hother, .inr ⟨hport, hroom⟩⟩

/-- Settles O48. -/
theorem sdiDataAccesses : Obligations.SdiDataAccesses := by
  intro s p d s1 i halone huser ha hb
  replace ha : s.gpr s1 + s.imm i = sdiDataAddress p := ha
  obtain ⟨hspace, hcreg⟩ := sdiData_address p
  rw [← ha] at hspace hcreg
  have haccess := State.access_sdiData huser
  have hload := exec_ldw_creg d hb hspace hcreg haccess
  have hstore := exec_stw_creg d hb hspace hcreg haccess
  refine ⟨sdiData_inReset halone hload hstore, fun hreset => ?_⟩
  have hloadStall (hin : (s.sdiParams p).isInput = true) (hempty : (s.sdiPort p).queue = []) :
      s.loadStall (.sdiData p) = some p := by simp [State.loadStall, State.sdiIsReady_input, hreset, hin, hempty]
  have hstoreStall (hout : (s.sdiParams p).isInput = false)
      (hfull : (s.sdiParams p).depth ≤ (s.sdiPort p).queue.length) : s.storeStall (.sdiData p) = some p := by
    simp [State.storeStall, State.sdiIsReady_output, hreset, hout, hfull]
  refine ⟨fun v rest hin hqueue => ?_, fun hin hempty hon htimeout => ?_, fun hin hempty hoff => ?_,
    fun hin hempty hon htimeout => ?_, fun hin => ?_, fun hout => ?_, fun hout hroom => ?_,
    fun hout hfull => ⟨fun hoff => ?_, fun hon htimeout => ?_, fun hon htimeout => ?_⟩⟩
  · exact completes_sdiTake hload halone hreset hin hqueue
  · exact completes_of_stall hload halone rfl (hloadStall hin hempty) (State.stallCycle_counting hon htimeout)
  · exact completes_of_stall hload halone rfl (hloadStall hin hempty) (State.stallCycle_disabled hoff)
  · exact ha ▸ completes_of_stall hload halone rfl (hloadStall hin hempty) (State.stallCycle_timeout hon htimeout)
  · exact completes_sdiStore_input halone hstore hin
  · exact completes_sdiLoad hload halone (by simp [State.cregValue, hout, hreset]) (by simp [State.loadStall, hout])
      (by simp [State.loadSideEffects, hout])
  · refine completes_sdiStore hstore halone (by simp [State.storeStall, State.sdiIsReady_output, hout, hroom])
      fun t ht => ?_
    rw [ht, State.storeCreg_sdiData_put (u := s.advance [s.cregStore (.sdiData p) (s.gpr d)]) hout hreset]
    exact (s.advance_onlyAdvances _).setSdiPort p _
  · exact completes_of_stall hstore halone rfl (hstoreStall hout hfull) (State.stallCycle_disabled hoff)
  · exact completes_of_stall hstore halone rfl (hstoreStall hout hfull) (State.stallCycle_counting hon htimeout)
  · exact ha ▸ completes_of_stall hstore halone rfl (hstoreStall hout hfull) (State.stallCycle_timeout hon htimeout)

end Sys2Proof.Machine
end

section
/-! The map of the peripheral block (10 R81 to R85; 20 R177): where each register and debug ROM word stands. -/

namespace Sys2Proof.Machine

/-! ### The blocks as ranges of numbers -/

/-- The register blocks and the debug ROM stand inside the peripheral block, word aligned and apart. -/
structure PeriphRanges (p : Params) : Prop where
  rom : p.debugRomBase.toNat = p.peripheralPins.toNat * 2 ^ 20 + 0x4000
  intcrAligned : p.intcrBase.toNat % 8 = 0
  dsuAligned : p.dsuBase.toNat % 8 = 0
  intcrBlock : p.intcrBase.toNat / 2 ^ 20 = p.peripheralPins.toNat
  dsuBlock : p.dsuBase.toNat / 2 ^ 20 = p.peripheralPins.toNat
  intcrInside : p.intcrBase.toNat % 2 ^ 20 + 0x250 ≤ 2 ^ 20
  dsuInside : p.dsuBase.toNat % 2 ^ 20 + 0x100 ≤ 2 ^ 20
  intcrDsu : p.intcrBase.toNat + 0x250 ≤ p.dsuBase.toNat ∨ p.dsuBase.toNat + 0x100 ≤ p.intcrBase.toNat
  intcrRom : p.intcrBase.toNat + 0x250 ≤ p.debugRomBase.toNat ∨ p.debugRomBase.toNat + 0x400 ≤ p.intcrBase.toNat
  dsuRom : p.dsuBase.toNat + 0x100 ≤ p.debugRomBase.toNat ∨ p.debugRomBase.toNat + 0x400 ≤ p.dsuBase.toNat

theorem debugRomBase_toNat (p : Params) : p.debugRomBase.toNat = p.peripheralPins.toNat * 2 ^ 20 + 0x4000 := by
  have := p.peripheralPins.isLt
  rw [Params.debugRomBase, BitVec.toNat_add, peripheralBase_toNat p, BitVec.toNat_ofNat]
  omega

theorem periphRanges {p : Params} (h : p.wf = true) : PeriphRanges p := by
  simp only [Params.wf, Params.disjointRanges, Bool.and_eq_true, Bool.or_eq_true, decide_eq_true_eq, beq_iff_eq,
    ← BitVec.toNat_inj, BitVec.extractLsb'_toNat, BitVec.toNat_ofNat, Nat.shiftRight_eq_div_pow] at h
  obtain ⟨⟨⟨⟨⟨⟨⟨⟨⟨⟨-, hi⟩, hd⟩, hib⟩, hdb⟩, hin⟩, hdn⟩, hid⟩, hir⟩, hdr⟩, -⟩ := h
  have := p.intcrBase.isLt
  have := p.dsuBase.isLt
  exact ⟨debugRomBase_toNat p, by omega, by omega, by omega, by omega, by omega, by omega, hid, hir, hdr⟩

/-- An address less a base is below a size exactly when the address is in the base's range. -/
theorem toNat_sub_lt_iff {pa b : Word} {n : Nat} (h : b.toNat + n ≤ 2 ^ 32) :
    (pa - b).toNat < n ↔ b.toNat ≤ pa.toNat ∧ pa.toNat < b.toNat + n := by
  have := pa.isLt
  rw [BitVec.toNat_sub]
  omega

theorem toNat_sub_of_le {pa b : Word} (h : b.toNat ≤ pa.toNat) : (pa - b).toNat = pa.toNat - b.toNat := by
  have := pa.isLt
  rw [BitVec.toNat_sub]
  omega

theorem inPeripheralBlock_iff {p : Params} {pa : Word} :
    inPeripheralBlock p pa = true ↔ pa.toNat / 2 ^ 20 = p.peripheralPins.toNat := by
  rw [inPeripheralBlock, beq_iff_eq, ← BitVec.toNat_inj, BitVec.extractLsb'_toNat, Nat.shiftRight_eq_div_pow]
  have := pa.isLt
  omega

theorem toNat_add_ofNat {b : Word} {o : Nat} (h : b.toNat + o < 2 ^ 32) :
    (b + BitVec.ofNat 32 o).toNat = b.toNat + o := by
  rw [BitVec.toNat_add, BitVec.toNat_ofNat]
  omega

section Map

variable {p : Params} (hwf : p.wf = true) {pa : Word} {o : Nat}
include hwf

/-- An address of the debug ROM. -/
theorem periphAt_of_rom (n : Fin 256) (hpa : pa.toNat = p.debugRomBase.toNat + 4 * n.val) :
    periphAt p pa = some (.rom n) := by
  obtain ⟨hrom, -, -, -, -, -, -, -, -, -⟩ := periphRanges hwf
  have := p.peripheralPins.isLt
  have hsub := toNat_sub_of_le (pa := pa) (b := p.debugRomBase) (by omega)
  have hn : Fin.ofNat 256 n.val = n := Fin.ext (Nat.mod_eq_of_lt n.isLt)
  rw [hpa, Nat.add_sub_cancel_left] at hsub
  simp only [periphAt, hsub]
  rw [if_pos (by omega), if_pos (by omega), Nat.mul_div_cancel_left _ (by decide), hn]

/-- An address of the debug support unit's registers. -/
theorem periphAt_of_dsu (n : Fin 32) (hpa : pa.toNat = p.dsuBase.toNat + 8 * n.val) :
    periphAt p pa = some (.dsr n) := by
  obtain ⟨hrom, -, -, -, hblock, -, hinside, -, -, hapart⟩ := periphRanges hwf
  have := p.peripheralPins.isLt
  have hsub := toNat_sub_of_le (pa := pa) (b := p.dsuBase) (by omega)
  have hnotRom : ¬ (pa - p.debugRomBase).toNat < 0x400 := by
    rw [toNat_sub_lt_iff (by omega)]
    omega
  have hn : Fin.ofNat 32 n.val = n := Fin.ext (Nat.mod_eq_of_lt n.isLt)
  rw [hpa, Nat.add_sub_cancel_left] at hsub
  simp only [periphAt, hsub, if_neg hnotRom]
  rw [if_pos (by omega), if_pos (by omega), Nat.mul_div_cancel_left _ (by decide), hn]

/-- An address of the interrupt controller and the timers. -/
theorem periphAt_of_intcr (ho : o < 0x250) (hpa : pa.toNat = p.intcrBase.toNat + o) :
    periphAt p pa = intcrTable.lookup o := by
  obtain ⟨hrom, -, -, hblock, hdsuBlock, hinside, hdsuInside, hapart, hapartRom, -⟩ := periphRanges hwf
  have := p.peripheralPins.isLt
  have hsub := toNat_sub_of_le (pa := pa) (b := p.intcrBase) (by omega)
  have hnotRom : ¬ (pa - p.debugRomBase).toNat < 0x400 := by
    rw [toNat_sub_lt_iff (by omega)]
    omega
  have hnotDsu : ¬ (pa - p.dsuBase).toNat < 0x100 := by
    rw [toNat_sub_lt_iff (by omega)]
    omega
  rw [hpa, Nat.add_sub_cancel_left] at hsub
  simp only [periphAt, hsub, if_neg hnotRom, if_neg hnotDsu]

theorem intcrBase_add_toNat (ho : o < 0x250) :
    (p.intcrBase + BitVec.ofNat 32 o).toNat = p.intcrBase.toNat + o := by
  obtain ⟨-, -, -, hblock, -, hinside, -, -, -, -⟩ := periphRanges hwf
  have := p.peripheralPins.isLt
  exact toNat_add_ofNat (by omega)

theorem dsuBase_add_toNat (ho : o < 0x100) : (p.dsuBase + BitVec.ofNat 32 o).toNat = p.dsuBase.toNat + o := by
  obtain ⟨-, -, -, -, hblock, -, hinside, -, -, -⟩ := periphRanges hwf
  have := p.peripheralPins.isLt
  exact toNat_add_ofNat (by omega)

theorem periphAt_intcr (ho : o < 0x250) : periphAt p (p.intcrBase + BitVec.ofNat 32 o) = intcrTable.lookup o :=
  periphAt_of_intcr hwf ho (intcrBase_add_toNat hwf ho)

theorem periphAt_dsr (n : Fin 32) : periphAt p (p.dsuBase + BitVec.ofNat 32 (8 * n.val)) = some (.dsr n) :=
  periphAt_of_dsu hwf n (dsuBase_add_toNat hwf (by omega))

theorem periphAt_rom (n : Fin 256) :
    periphAt p (p.peripheralBase + 0x4000#32 + BitVec.ofNat 32 (4 * n.val)) = some (.rom n) := by
  have hrom := debugRomBase_toNat p
  have := p.peripheralPins.isLt
  exact periphAt_of_rom hwf n (toNat_add_ofNat (b := p.debugRomBase) (by omega))

/-- The registers of the interrupt controller and the timers are in the peripheral block. -/
theorem inPeripheralBlock_intcr (ho : o < 0x250) :
    inPeripheralBlock p (p.intcrBase + BitVec.ofNat 32 o) = true := by
  obtain ⟨-, -, -, hblock, -, hinside, -, -, -, -⟩ := periphRanges hwf
  rw [inPeripheralBlock_iff, intcrBase_add_toNat hwf ho]
  omega

theorem inPeripheralBlock_dsu (ho : o < 0x100) :
    inPeripheralBlock p (p.dsuBase + BitVec.ofNat 32 o) = true := by
  obtain ⟨-, -, -, -, hblock, -, hinside, -, -, -⟩ := periphRanges hwf
  rw [inPeripheralBlock_iff, dsuBase_add_toNat hwf ho]
  omega

end Map

theorem intcrTable_interrupts (k : Fin 2) : ∀ x ∈ [(0x000, PeriphReg.intPending k), (0x010, .intMask k),
    (0x020, .intTest k), (0x030, .intClr k), (0x040, .intSet k), (0x108, .intMaskClr k), (0x118, .intMaskSet k)],
    intcrTable.lookup (x.1 + 8 * k.val) = some x.2 := by
  fin_cases k <;> decide

theorem intcrTable_timers (i : Fin 3) : ∀ x ∈ [(0x200, PeriphReg.timeConst i), (0x208, .timeCount i),
    (0x210, .timeControl i)], intcrTable.lookup (x.1 + 0x18 * i.val) = some x.2 := by
  fin_cases i <;> decide

theorem intcrTable_nodup : (intcrTable.map Prod.fst).Nodup := by decide

/-- The registers of the interrupt controller and the timers stand at double words of their block. -/
theorem intcrTable_offset {o : Nat} {r : PeriphReg} (h : intcrTable.lookup o = some r) : o < 0x250 ∧ o % 8 = 0 := by
  have hall : ∀ x ∈ intcrTable, x.1 < 0x250 ∧ x.1 % 8 = 0 := by decide
  exact hall _ ((lookup_eq_some_iff intcrTable_nodup).mp h)

end Sys2Proof.Machine
end

section
/-! The debug support unit's registers (61 R661, R667, R668): what each reads as after a store by the core or a poke by
the host, and the host's actions (61 R673, R674). -/

namespace Sys2Proof.Machine

/-! ### Register values after a change of the unit -/

/-- The RW bits of DSR1 are those of 0xFFFF0186 (61 R667). -/
theorem State.dsr1Value_storeStatus (s : State) (v : Word) :
    ({ s with dsu := s.dsu.storeStatus v } : State).dsr1Value
      = (s.dsr1Value &&& 0x0000FE79#32) ||| (v &&& 0xFFFF0186#32) := by
  refine BitVec.eq_of_getLsbD_eq fun i hi => ?_
  simp only [State.dsr1Value, State.debugMode, Dsu.storeStatus, BitVec.getLsbD_or, BitVec.getLsbD_and,
    BitVec.getLsbD_append, BitVec.getLsbD_extractLsb', BitVec.getLsbD_ofBool]
  interval_cases i <;> simp

theorem State.dsrValue_storeStatus (s : State) (v : Word) (m : Fin 32) :
    ({ s with dsu := s.dsu.storeStatus v } : State).dsrValue m =
      if m = 1 then (s.dsrValue 1 &&& 0x0000FE79#32) ||| (v &&& 0xFFFF0186#32) else s.dsrValue m := by
  by_cases hm : m = 1
  · subst hm
    exact s.dsr1Value_storeStatus v
  · simp [State.dsrValue, hm, Dsu.storeStatus]

theorem State.dsrValue_dsr2 (s : State) (v : Word) (m : Fin 32) :
    ({ s with dsu := { s.dsu with dsr2 := v } } : State).dsrValue m = if m = 2 then v else s.dsrValue m := by
  by_cases hm : m = 2
  · subst hm
    rfl
  · rw [if_neg hm]
    simp only [State.dsrValue, if_neg hm]
    rfl

theorem State.dsrValue_of_three_le (s : State) {m : Fin 32} (h : 3 ≤ m.val) :
    s.dsrValue m = (s.dsu.general[m.val - 3]?).getD 0#32 := by
  rw [State.dsrValue, if_neg (by omega), if_neg (by omega), if_neg (by omega)]

/-- A write of DSR3 to DSR31 changes that register alone. -/
theorem State.dsrValue_storeGeneral (s : State) {n : Fin 32} (hn : 3 ≤ n.val) (v : Word) (m : Fin 32) :
    ({ s with dsu := s.dsu.storeGeneral n.val v } : State).dsrValue m = if m = n then v else s.dsrValue m := by
  by_cases hm : 3 ≤ m.val
  · rw [State.dsrValue_of_three_le _ hm, State.dsrValue_of_three_le _ hm]
    show ((s.dsu.general.setIfInBounds (n.val - 3) v)[m.val - 3]?).getD 0#32 = _
    rw [Vector.getElem?_setIfInBounds]
    by_cases hmn : m = n
    · rw [if_pos (by rw [hmn]), if_pos (by omega), if_pos hmn]
      rfl
    · rw [if_neg fun h => hmn (Fin.ext (by omega)), if_neg hmn]
  · rw [if_neg fun h : m = n => hm (h ▸ hn)]
    obtain ⟨k, hk⟩ := m
    have hlow : k = 0 ∨ k = 1 ∨ k = 2 := by simp only at hm; omega
    rcases hlow with rfl | rfl | rfl <;> rfl

/-! ### A poke by the host -/

/-- What DSRn reads as after a poke of `v` (61 R661, R673; assumption 26). -/
def State.pokedValue (s : State) (n : Fin 32) (v : Word) : Word :=
  if n = 0 then s.dsrValue 0
  else if n = 1 then (s.dsrValue 1 &&& 0x0000FE79#32) ||| (v &&& 0xFFFF0186#32)
  else if n = 2 then dsr2Data s.cfg.debugVariant v
  else v

theorem State.dsrValue_pokeDsr (s : State) (n m : Fin 32) (v : Word) :
    (s.pokeDsr n v).dsrValue m = if m = n then s.pokedValue n v else s.dsrValue m := by
  unfold State.pokeDsr State.pokedValue
  split
  case isTrue h0 =>
    by_cases hm : m = n
    · rw [if_pos hm, hm, h0]
    · rw [if_neg hm]
  split
  case isTrue h1 =>
    rw [h1]
    exact s.dsrValue_storeStatus v m
  split
  case isTrue h2 =>
    rw [h2]
    exact s.dsrValue_dsr2 _ m
  case isFalse h0 h1 h2 => exact s.dsrValue_storeGeneral (by omega) v m

theorem State.pokeDsr_frame (s : State) (n : Fin 32) (v : Word) :
    ∃ dsu, s.pokeDsr n v = { s with dsu := dsu } ∧ dsu.linkByte = s.dsu.linkByte := by
  unfold State.pokeDsr
  repeat' split
  all_goals exact ⟨_, rfl, rfl⟩

theorem applyEvent_hostPoke (s : State) (n : Fin 32) (v : Word) : applyEvent s (.hostPoke n v) = { s.pokeDsr n v with
    toHost := if s.cfg.debugVariant = .tapLink then s.toHost else s.toHost ++ [.poked n] } := by
  obtain ⟨dsu, heq, -⟩ := s.pokeDsr_frame n v
  simp only [applyEvent, heq]
  cases s.cfg.debugVariant <;> rfl

/-- The data of DSR2 under its mask. -/
theorem dsr2Data_eq (variant : DebugVariant) (v : Word) :
    dsr2Data variant v = if variant = .tapLink then v &&& 0xFF#32 else v := by
  cases variant with
  | tapLink => exact setWidth_extractLsb'_zero v 8
  | jtag => rfl

theorem hostEventInterrupts_eq (variant : DebugVariant) (reason channel : BitVec 3) :
    hostEventInterrupts variant reason channel = decide (reason = 1#3 ∧ (variant = .tapLink ∨ channel = 0#3)) := by
  cases variant <;> simp [hostEventInterrupts, Bool.decide_and, beq_eq_decide]

theorem byte_setWidth_eq_append (b : Byte) : b.setWidth 32 = 0#24 ++ b := by
  refine BitVec.eq_of_toNat_eq ?_
  rw [toNat_append_eq_add, BitVec.toNat_setWidth_of_le (by decide)]
  exact (Nat.zero_add _).symm

theorem hostActions (s : State) : HostActions s := by
  have hpoke (n m : Fin 32) (v : Word) : (applyEvent s (.hostPoke n v)).dsrValue m =
      if m = n then s.pokedValue n v else s.dsrValue m := by
    rw [applyEvent_hostPoke]
    exact s.dsrValue_pokeDsr n m v
  constructor
  case peek => exact fun n => rfl
  case pokeVersion =>
    intro v
    rw [applyEvent_hostPoke]
    rfl
  case pokeStatus => exact fun v => hpoke 1 1 v
  case pokeOutput => exact fun v => (hpoke 2 2 v).trans (dsr2Data_eq _ v)
  case pokeGeneral =>
    intro n v hn
    rw [hpoke, if_pos rfl, State.pokedValue, if_neg (by omega), if_neg (by omega), if_neg (by omega)]
  case pokeOthers => exact fun n m v h => (hpoke n m v).trans (if_neg h)
  case pokeFrame =>
    intro n v
    obtain ⟨dsu, heq, hlink⟩ := s.pokeDsr_frame n v
    rw [applyEvent_hostPoke, heq]
    exact ⟨rfl, hlink⟩
  case pokeAnswer =>
    intro n v
    rw [applyEvent_hostPoke]
  case event =>
    intro reason channel
    rw [← hostEventInterrupts_eq]
    simp only [applyEvent]
    cases s.cfg.debugVariant <;> rfl
  case eventAck =>
    intro h
    simp only [applyEvent, h]
  case sendByte =>
    intro hv hp
    simp only [applyEvent, State.dsuSend, hv, hp, if_true, byte_setWidth_eq_append]
  case sendEvent =>
    intro hv hp
    simp only [applyEvent, State.dsuSend, hv, hp, if_true]
  case sendNothing =>
    intro hp
    simp only [applyEvent, State.dsuSend, hp, Bool.false_eq_true, if_false]

end Sys2Proof.Machine
end

section
/-! Word stores to the peripheral block (60 R542, R545 to R547; 61 R667, R668). -/

namespace Sys2Proof.Machine

/-! ### The effect of a store -/

theorem State.memStoreWrites_periph {s : State} {pa : Word} {r : PeriphReg} (v : Word)
    (hp : inPeripheralBlock s.cfg pa = true) (hr : periphAt s.cfg pa = some r) :
    s.memStoreWrites .word pa v = [.periph r v] := by
  simp [State.memStoreWrites, hp, hr]

/-- A store whose checks pass. -/
theorem State.storeBy_memory {s : State} {w : Width} {a pa : Word} (hb : s.dbreakHit a = false)
    (hc : isCRegSpace a = false) (hm : w.misaligned a = false) (h : s.leadsTo a pa 2) (v : Word) :
    s.storeBy w a v = lsuEffect (s.memStoreWrites w pa v) := by
  obtain ⟨-, -, rfl⟩ := h.single
  exact State.accessEffect_memory hb hc hm h

/-- A word store to a peripheral register moves past the bundle and changes that register. -/
theorem completes_stw_periph {s : State} {P : State → Prop} {s1 s2 : RegNum} {i : BitVec 9} {pa : Word} {r : PeriphReg}
    (halone : s.alone) (hb : s.dbreakHit (s.gpr s1 + s.imm i) = false)
    (hc : isCRegSpace (s.gpr s1 + s.imm i) = false) (hm : Width.misaligned .word (s.gpr s1 + s.imm i) = false)
    (h : s.leadsTo (s.gpr s1 + s.imm i) pa 2) (hp : inPeripheralBlock s.cfg pa = true)
    (hr : periphAt s.cfg pa = some r)
    (hP : ∀ u, OnlyAdvances s u → P (u.storePeriph r (s.gpr s2))) : Completes (.stw s1 i s2) s P := by
  refine completes_of_issue (e := lsuEffect [.periph r (s.gpr s2)]) ?_ halone rfl rfl
    (hP _ (s.advance_onlyAdvances _))
  rw [exec_stw, State.storeBy_memory hb hc hm h, State.memStoreWrites_periph _ hp hr]

/-- Untranslated, a store to a register of the interrupt controller or a timer. -/
theorem completes_stw_intcr {s : State} {P : State → Prop} {s1 s2 : RegNum} {i : BitVec 9} {offset : Nat}
    {r : PeriphReg} (halone : s.alone) (hwf : s.cfg.wf = true) (hb : s.dbreakHit (s.gpr s1 + s.imm i) = false)
    (hc : isCRegSpace (s.gpr s1 + s.imm i) = false) (htlb : s.tlbEnable = false)
    (ha : s.gpr s1 + s.imm i = s.cfg.intcrBase + BitVec.ofNat 32 offset) (hr : intcrTable.lookup offset = some r)
    (hP : ∀ u, OnlyAdvances s u → P (u.storePeriph r (s.gpr s2))) : Completes (.stw s1 i s2) s P := by
  obtain ⟨hlt, halign⟩ := intcrTable_offset hr
  have hbase := (periphRanges hwf).intcrAligned
  refine completes_stw_periph halone hb hc ?_ (.inl ⟨htlb, rfl⟩) (ha ▸ inPeripheralBlock_intcr hwf hlt)
    (ha ▸ (periphAt_intcr hwf hlt).trans hr) hP
  rw [ha, Width.misaligned, bne_eq_false_iff_eq, intcrBase_add_toNat hwf hlt]
  show _ % 4 = 0
  omega

/-- Untranslated, a store to a register of the debug support unit. -/
theorem completes_stw_dsu {s : State} {P : State → Prop} {s1 s2 : RegNum} {i : BitVec 9} {n : Fin 32}
    (halone : s.alone) (hwf : s.cfg.wf = true) (hb : s.dbreakHit (s.gpr s1 + s.imm i) = false)
    (hc : isCRegSpace (s.gpr s1 + s.imm i) = false) (htlb : s.tlbEnable = false)
    (ha : s.gpr s1 + s.imm i = s.cfg.dsuBase + BitVec.ofNat 32 (8 * n.val))
    (hP : ∀ u, OnlyAdvances s u → P (u.storeDsr n (s.gpr s2))) : Completes (.stw s1 i s2) s P := by
  have hlt : 8 * n.val < 0x100 := by omega
  have hbase := (periphRanges hwf).dsuAligned
  refine completes_stw_periph (r := .dsr n) halone hb hc ?_ (.inl ⟨htlb, rfl⟩) (ha ▸ inPeripheralBlock_dsu hwf hlt)
    (ha ▸ periphAt_dsr hwf n) hP
  rw [ha, Width.misaligned, bne_eq_false_iff_eq, dsuBase_add_toNat hwf hlt]
  show _ % 4 = 0
  omega

/-! ### Interrupt controller and timers -/

/-- The offsets and effects of the interrupt controller's stores (60 R542; 10 R81). -/
theorem storePeriph_intc {offset : Nat} {f : IntCtl → Word → IntCtl} {k : Fin 2}
    (h : (offset = 0x10 + 8 * k.val ∧ (f = fun c v => { c with mask := c.mask.set k.val v k.isLt }))
      ∨ (offset = 0x118 + 8 * k.val ∧ (f = fun c v => { c with mask := c.mask.set k.val (c.mask.get k ||| v) k.isLt }))
      ∨ (offset = 0x108 + 8 * k.val
          ∧ (f = fun c v => { c with mask := c.mask.set k.val (c.mask.get k &&& ~~~v) k.isLt }))
      ∨ (offset = 0x20 + 8 * k.val ∧ (f = fun c v => { c with test := c.test.set k.val v k.isLt }))
      ∨ (offset = 0x40 + 8 * k.val ∧ (f = fun c v => { c with test := c.test.set k.val (c.test.get k ||| v) k.isLt }))
      ∨ (offset = 0x30 + 8 * k.val
          ∧ (f = fun c v => { c with test := c.test.set k.val (c.test.get k &&& ~~~v) k.isLt }))
      ∨ (offset = 8 * k.val ∧ (f = fun c _ => c))) :
    ∃ r, intcrTable.lookup offset = some r ∧ ∀ u v, State.storePeriph u r v = { u with intc := f u.intc v } := by
  have hmap := intcrTable_interrupts k
  simp only [List.forall_mem_cons, List.not_mem_nil, false_imp_iff, implies_true, and_true, Nat.zero_add] at hmap
  obtain ⟨hpending, hmask, htest, hclr, hset, hmaskClr, hmaskSet⟩ := hmap
  rcases h with ⟨rfl, rfl⟩ | ⟨rfl, rfl⟩ | ⟨rfl, rfl⟩ | ⟨rfl, rfl⟩ | ⟨rfl, rfl⟩ | ⟨rfl, rfl⟩ | ⟨rfl, rfl⟩
  · exact ⟨_, hmask, fun _ _ => rfl⟩
  · exact ⟨_, hmaskSet, fun _ _ => rfl⟩
  · exact ⟨_, hmaskClr, fun _ _ => rfl⟩
  · exact ⟨_, htest, fun _ _ => rfl⟩
  · exact ⟨_, hset, fun _ _ => rfl⟩
  · exact ⟨_, hclr, fun _ _ => rfl⟩
  · exact ⟨_, hpending, fun _ _ => rfl⟩

theorem Timer.storeControl_eq (t : Timer) (v : Word) : t.storeControl v =
    { t with enable := v.getLsbD 0, intEnable := v.getLsbD 1, status := t.status && !v.getLsbD 2 } := by
  rw [Timer.storeControl]
  cases v.getLsbD 2 <;> simp

/-- The offsets and effects of the timers' stores (60 R547). -/
theorem storePeriph_timer {offset : Nat} {f : Timer → Word → Timer} {k : Fin 3}
    (h : (offset = 0x200 + 0x18 * k.val ∧ (f = fun c v => { c with const := v }))
      ∨ (offset = 0x208 + 0x18 * k.val ∧ (f = fun c v => { c with count := v }))
      ∨ (offset = 0x210 + 0x18 * k.val ∧ (f = fun c v =>
          { c with enable := v.getLsbD 0, intEnable := v.getLsbD 1, status := c.status && !v.getLsbD 2 }))) :
    ∃ r, intcrTable.lookup offset = some r
      ∧ ∀ u v, State.storePeriph u r v = u.setTimer k (f (u.timers.timer.get k) v) := by
  have hmap := intcrTable_timers k
  simp only [List.forall_mem_cons, List.not_mem_nil, false_imp_iff, implies_true, and_true] at hmap
  obtain ⟨hconst, hcount, hcontrol⟩ := hmap
  rcases h with ⟨rfl, rfl⟩ | ⟨rfl, rfl⟩ | ⟨rfl, rfl⟩
  · exact ⟨_, hconst, fun _ _ => rfl⟩
  · exact ⟨_, hcount, fun _ _ => rfl⟩
  · exact ⟨_, hcontrol, fun u v => congrArg (u.setTimer k) (Timer.storeControl_eq _ v)⟩

/-! ### The debug support unit -/

theorem State.dsuWriteEnabled_of_modes {s : State}
    (h : (s.userMode = false ∧ s.dsu.supWrite = true) ∨ (s.userMode = true ∧ s.dsu.userWrite = true)) :
    s.dsuWriteEnabled = true := by
  rcases h with ⟨hu, hw⟩ | ⟨hu, hw⟩ <;> simp [State.dsuWriteEnabled, hu, hw]

theorem State.dsuWriteEnabled_of_disabled {s : State}
    (h : (s.userMode = false ∧ s.dsu.supWrite = false) ∨ (s.userMode = true ∧ s.dsu.userWrite = false)) :
    s.dsuWriteEnabled = false := by
  rcases h with ⟨hu, hw⟩ | ⟨hu, hw⟩ <;> simp [State.dsuWriteEnabled, hu, hw]

theorem OnlyAdvances.withDsu {s u : State} (h : OnlyAdvances s u) (dsu : Dsu) :
    OnlyAdvances s { ({ u with dsu := dsu } : State) with dsu := s.dsu } :=
  { h with system := { h.system with dsu := rfl } }

theorem OnlyAdvances.dsuWriteEnabled {s u : State} (h : OnlyAdvances s u) : u.dsuWriteEnabled = s.dsuWriteEnabled := by
  rw [State.dsuWriteEnabled, State.dsuWriteEnabled, h.system.dsu, State.userMode, State.userMode, h.system.psw]

theorem OnlyAdvances.dsrValue {s u : State} (h : OnlyAdvances s u) (n : Fin 32) : u.dsrValue n = s.dsrValue n := by
  simp only [State.dsrValue, State.dsr1Value, State.debugMode, h.system.cfg, h.system.dsu, h.system.psw, h.system.pins]

section StoreDsr

variable {s : State} {v : Word}

theorem State.storeDsr_disabled (h : s.dsuWriteEnabled = false) (n : Fin 32) : s.storeDsr n v = s := by
  simp [State.storeDsr, h]

theorem State.storeDsr_version : s.storeDsr 0 v = s := by
  simp [State.storeDsr]

theorem State.storeDsr_status (h : s.dsuWriteEnabled = true) :
    s.storeDsr 1 v = { s with dsu := s.dsu.storeStatus v } := by
  simp [State.storeDsr, h]

theorem State.storeDsr_output (h : s.dsuWriteEnabled = true) :
    s.storeDsr 2 v = { s with dsu := s.dsu.storeOutput s.cfg.debugVariant v } := by
  simp [State.storeDsr, h]

theorem State.storeDsr_general (h : s.dsuWriteEnabled = true) {n : Fin 32} (hn : 3 ≤ n.val) :
    s.storeDsr n v = { s with dsu := s.dsu.storeGeneral n.val v } := by
  have h0 : n ≠ 0 := by omega
  have h1 : n ≠ 1 := by omega
  have h2 : n ≠ 2 := by omega
  simp [State.storeDsr, h, h0, h1, h2]

end StoreDsr

theorem Dsu.storeOutput_tapLink (d : Dsu) (v : Word) : d.storeOutput .tapLink v = { d with
    dsr2 := v &&& 0xFF#32
    linkByte := if d.outputPending then d.linkByte else v.setWidth 8
    outputPending := true } := by
  have hdata : dsr2Data .tapLink v = v &&& 0xFF#32 := dsr2Data_eq .tapLink v
  rw [BitVec.setWidth_eq_extractLsb' (by decide), ← hdata]
  rfl

theorem Dsu.storeOutput_jtag {d : Dsu} (h : (d.outputPending && d.eventAckPending) = false) (v : Word) :
    d.storeOutput .jtag v =
      { d with dsr2 := v, outputPending := if d.eventAckPending then d.outputPending else true } := by
  cases hack : d.eventAckPending <;> simp_all [Dsu.storeOutput]

/-- What a store by the core that completes as `storeDsr` does to the unit (61 R667, R668). -/
theorem dsuStores_of_storeDsr {i : Instr} {n : Fin 32} {v : Word} {s : State}
    (h : ∀ P : State → Prop, (∀ u, OnlyAdvances s u → P (u.storeDsr n v)) → Completes i s P) : DsuStores i n v s := by
  have henabled {u : State} (hu : OnlyAdvances s u)
      (hmode : (s.userMode = false ∧ s.dsu.supWrite = true) ∨ (s.userMode = true ∧ s.dsu.userWrite = true)) :
      u.dsuWriteEnabled = true := hu.dsuWriteEnabled.trans (State.dsuWriteEnabled_of_modes hmode)
  constructor
  case disabled =>
    refine fun hmode => h _ fun u hu => ?_
    rwa [State.storeDsr_disabled (hu.dsuWriteEnabled.trans (State.dsuWriteEnabled_of_disabled hmode))]
  case version =>
    rintro rfl
    exact h _ fun u hu => State.storeDsr_version.symm ▸ hu
  case status =>
    rintro hmode rfl
    refine h _ fun u hu => ?_
    rw [State.storeDsr_status (henabled hu hmode), hu.system.dsu]
    exact ⟨rfl, hu.withDsu _⟩
  case outputTapLink =>
    rintro hmode rfl hv
    refine h _ fun u hu => ?_
    have hout := u.dsu.storeOutput_tapLink v
    rw [State.storeDsr_output (henabled hu hmode), show u.cfg.debugVariant = .tapLink by rw [hu.system.cfg, hv], hout,
      hu.system.dsu]
    exact ⟨rfl, hu.withDsu _⟩
  case outputJtag =>
    rintro hmode rfl hv hboth
    refine h _ fun u hu => ?_
    have hout := Dsu.storeOutput_jtag hboth v
    rw [State.storeDsr_output (henabled hu hmode), show u.cfg.debugVariant = .jtag by rw [hu.system.cfg, hv],
      hu.system.dsu, hout]
    exact ⟨rfl, hu.withDsu _⟩
  case general =>
    intro hmode hn
    refine h _ fun u hu => ?_
    have hvalue := u.dsrValue_storeGeneral hn v
    rw [State.storeDsr_general (henabled hu hmode) hn]
    exact ⟨(hvalue n).trans (if_pos rfl), fun m hm => ((hvalue m).trans (if_neg hm)).trans (hu.dsrValue m),
      hu.withDsu _⟩

/-- Settles O50. -/
theorem peripheralStores : Obligations.PeripheralStores := by
  refine ⟨fun s s1 s2 i k halone hwf hb hc htlb offset f hf ha => ?_,
    fun s s1 s2 i k halone hwf hb hc htlb => ⟨fun offset f hf ha => ?_, fun ha => ?_⟩,
    fun s s1 s2 i n halone hwf hb hc htlb ha =>
      dsuStores_of_storeDsr fun P => completes_stw_dsu halone hwf hb hc htlb ha, hostActions⟩
  · obtain ⟨r, hr, hstore⟩ := storePeriph_intc hf
    refine completes_stw_intcr halone hwf hb hc htlb ha hr fun u hu => ?_
    rw [hstore]
    exact ⟨congrArg (f · (s.gpr s2)) hu.system.intc, { hu with system := { hu.system with intc := rfl } }⟩
  · obtain ⟨r, hr, hstore⟩ := storePeriph_timer hf
    refine completes_stw_intcr halone hwf hb hc htlb ha hr fun u hu => ?_
    rw [hstore, hu.system.timers]
    have hdivide : u.timers.divide = s.timers.divide := congrArg Timers.divide hu.system.timers
    have hpresc : u.timers.presc = s.timers.presc := congrArg Timers.presc hu.system.timers
    exact ⟨vector_get_set_self _ k _, fun j hj =>
        (vector_get_set_of_ne u.timers.timer _ hj).trans (congrArg (fun x : Timers => x.timer.get j) hu.system.timers),
      hdivide, hpresc, { hu with system := { hu.system with timers := rfl } }⟩
  · refine completes_stw_intcr (r := .timeDivide) halone hwf hb hc htlb ha (by decide) fun u hu => ?_
    have hlow : (s.gpr s2).extractLsb' 0 16 = (s.gpr s2).setWidth 16 :=
      (BitVec.setWidth_eq_extractLsb' (by decide)).symm
    rw [← hlow, ← hu.system.timers]
    exact ⟨rfl, hu.system.timers ▸ { hu with system := { hu.system with timers := rfl } }⟩

end Sys2Proof.Machine
end

section
/-! What the registers of the peripheral block read as (10 R81 to R85; 60 R541, R547; 61 R667, R668, R670). -/

namespace Sys2Proof.Machine

/-- Bit `n` of INTPENDING0 from line 3 on (60 R541). -/
theorem State.intPending_low_getLsbD (s : State) {n : Fin 32} (hn : 3 ≤ n.val) :
    (s.intPending 0).getLsbD n.val = (s.pins.irqLow.getLsbD n.val || (s.intc.test.get 0).getLsbD n.val) := by
  have hlines : s.linesLow.getLsbD n.val = s.pins.irqLow.getLsbD n.val := by
    rw [Bool.eq_iff_iff, s.linesLow_getLsbD n]
    constructor
    · rintro (⟨-, h⟩ | ⟨i, hi, -⟩)
      · exact h
      · omega
    · exact fun h => .inl ⟨hn, h⟩
  rw [State.intPending, if_pos rfl, BitVec.getLsbD_or, hlines]

/-- Bit `i` of INTPENDING0 for a timer (60 R541, R547). -/
theorem State.intPending_timer_getLsbD (s : State) (i : Fin 3) : (s.intPending 0).getLsbD i.val =
    ((s.timers.timer.get i).status && (s.timers.timer.get i).intEnable || (s.intc.test.get 0).getLsbD i.val) := by
  have hlines : s.linesLow.getLsbD i.val = ((s.timers.timer.get i).status && (s.timers.timer.get i).intEnable) := by
    rw [Bool.eq_iff_iff, s.linesLow_getLsbD ⟨i.val, by omega⟩, Bool.and_eq_true]
    constructor
    · rintro (⟨h, -⟩ | ⟨j, hj, h⟩)
      · exact absurd h (by show ¬ 3 ≤ i.val; omega)
      · rwa [Fin.ext hj] at h
    · exact fun h => .inr ⟨i, rfl, h⟩
  rw [State.intPending, if_pos rfl, BitVec.getLsbD_or, hlines]

theorem Timer.controlValue_toNat (t : Timer) :
    t.controlValue.toNat = t.enable.toNat + 2 * t.intEnable.toNat + 4 * t.status.toNat := by
  rw [Timer.controlValue, toNat_append_eq_add, toNat_append_eq_add, toNat_append_eq_add, BitVec.toNat_ofBool,
    BitVec.toNat_ofBool, BitVec.toNat_ofBool, BitVec.toNat_ofNat]
  omega

theorem State.dsr1Value_toNat (s : State) : s.dsr1Value.toNat = (s.psw.getLsbD 12).toNat + 2 * s.dsu.supWrite.toNat
    + 4 * s.dsu.userWrite.toNat + 8 * s.cfg.bigEndian.toNat
    + 16 * (if s.cfg.debugVariant = .jtag then s.dsu.eventAckPending.toNat else 0) + 32 * s.dsu.outputPending.toNat
    + 64 * s.pins.triggerIn.toNat + 128 * s.dsu.triggerOut.toNat + 256 * s.dsu.triggerEnable.toNat
    + 2 ^ 16 * s.dsu.swFlags.toNat := by
  have hack : (s.cfg.debugVariant == .jtag && s.dsu.eventAckPending).toNat =
      if s.cfg.debugVariant = .jtag then s.dsu.eventAckPending.toNat else 0 := by
    cases s.cfg.debugVariant <;> rfl
  have hmode : s.debugMode = s.psw.getLsbD 12 := rfl
  simp only [State.dsr1Value, toNat_append_eq_add, BitVec.toNat_ofBool, BitVec.toNat_ofNat, hack, hmode]
  omega

theorem debugRegisterValues (s : State) : DebugRegisterValues s where
  version := versionWord_toNat s.cfg
  status := s.dsr1Value_toNat
  output := rfl
  general n := by
    refine (s.dsrValue_of_three_le (m := ⟨n.val + 3, by omega⟩) (Nat.le_add_left 3 n.val)).trans ?_
    show (s.dsu.general[n.val]?).getD 0#32 = s.dsu.general[n.val]
    rw [Vector.getElem?_eq_getElem n.isLt]
    rfl
  romFirst := rfl
  romListed n w hn hw := by
    show romWord s.cfg n = w
    rw [romWord, if_neg hn, hw]
    rfl

end Sys2Proof.Machine
end

section
/-! Loads and stores that reach the peripheral block or meet a bus error (20 R176, R177; assumptions 12, 13, 35). -/

namespace Sys2Proof.Machine

/-! ### What the bus answers -/

section Bus

variable {s : State} {w : Width} {pa : Word}

theorem State.busRead_periph {r : PeriphReg} (hp : inPeripheralBlock s.cfg pa = true)
    (hr : periphAt s.cfg pa = some r) : s.busRead .word pa = some (s.periphValue r) := by
  simp [State.busRead, hp, hr]

/-- Less than a word of the peripheral block cannot be read (20 R177). -/
theorem State.busRead_part (hp : inPeripheralBlock s.cfg pa = true) (hw : w ≠ .word) : s.busRead w pa = none := by
  simp [State.busRead, hp, hw]

/-- Nothing answers where no register stands (assumption 35). -/
theorem State.busRead_hole (hp : inPeripheralBlock s.cfg pa = true) (hr : periphAt s.cfg pa = none) :
    s.busRead w pa = none := by
  simp [State.busRead, hp, hr]

theorem State.busRead_error (hp : inPeripheralBlock s.cfg pa = false) (he : busReadError s.cfg pa = true) :
    s.busRead w pa = none := by
  simp [State.busRead, hp, he]

theorem State.memStoreWrites_part (v : Word) (hp : inPeripheralBlock s.cfg pa = true) (hw : w ≠ .word) :
    s.memStoreWrites w pa v = [.busError] := by
  simp [State.memStoreWrites, hp, hw]

theorem State.memStoreWrites_hole (v : Word) (hp : inPeripheralBlock s.cfg pa = true) (hr : periphAt s.cfg pa = none) :
    s.memStoreWrites .word pa v = [.busError] := by
  simp [State.memStoreWrites, hp, hr]

/-- A failed store may have changed memory all the same (20 R176; assumption 13). -/
theorem State.memStoreWrites_error (v : Word) (hp : inPeripheralBlock s.cfg pa = false)
    (he : busWriteError s.cfg pa = true) :
    s.memStoreWrites w pa v = [.busError] ∨ s.memStoreWrites w pa v = [.mem pa w v, .busError] := by
  cases h : Config.failedStoreLands s.oracle <;> simp [State.memStoreWrites, hp, he, h]

end Bus

/-! ### Bus errors -/

/-- A bus error is pending, and nothing else changes. -/
theorem State.postBusError_eq (u : State) : u.postBusError.dcError.isSome = true
    ∧ ∀ dc, { u.postBusError with dcError := dc } = { u with dcError := dc } := by
  cases h : u.dcError with
  | none => simp [State.postBusError, h]
  | some n => simp [State.postBusError, h]

theorem OnlyAdvances.postBusError {s u : State} (h : OnlyAdvances s u) :
    u.postBusError.dcError.isSome = true ∧ OnlyAdvances s { u.postBusError with dcError := s.dcError } := by
  obtain ⟨hsome, hkeep⟩ := u.postBusError_eq
  refine ⟨hsome, ?_⟩
  rw [hkeep]
  exact { h with system := { h.system with dcError := rfl } }

theorem WritesGpr.postBusError {s u : State} {d : RegNum} {v : Word} (h : WritesGpr d v s u) :
    u.postBusError.dcError.isSome = true ∧ WritesGpr d v s { u.postBusError with dcError := s.dcError } := by
  obtain ⟨hsome, hkeep⟩ := u.postBusError_eq
  refine ⟨hsome, ?_⟩
  rw [hkeep]
  exact { h with system := { h.system with dcError := rfl } }

/-- A bus error beside a change of memory. -/
theorem OnlyAdvances.postBusError_mem {s u : State} (h : OnlyAdvances s u) (m : Memory) :
    (State.postBusError { u with mem := m }).dcError.isSome = true ∧ (State.postBusError { u with mem := m }).mem = m
      ∧ OnlyAdvances s { State.postBusError { u with mem := m } with dcError := s.dcError, mem := s.mem } := by
  obtain ⟨hsome, hkeep⟩ := State.postBusError_eq { u with mem := m }
  refine ⟨hsome, State.postBusError_mem _, ?_⟩
  have hstate := congrArg (fun x : State => { x with mem := s.mem }) (hkeep s.dcError)
  refine Eq.mpr (congrArg (OnlyAdvances s) hstate) ?_
  exact { h with memory := fun _ => rfl, system := { h.system with dcError := rfl } }

/-- A load the bus does not answer. -/
theorem loadMeetsBusError_of_exec {i : Instr} {s : State} {w : Width} {f : Word → Word} {d : RegNum} {pa : Word}
    (hexec : exec i s = issue (lsuEffect (s.memLoadWrites w f d pa)) s) (halone : s.alone)
    (hbus : s.busRead w pa = none) : LoadMeetsBusError i d s := by
  have hwrites : s.memLoadWrites w f d pa = [.gpr d (Config.failedLoadWord s.oracle), .busError] := by
    rw [State.memLoadWrites, hbus]
  rw [hwrites] at hexec
  obtain ⟨hsome, hwritten⟩ := ((s.advance_onlyAdvances
    [lsuEffect [.gpr d (Config.failedLoadWord s.oracle), .busError]]).setGpr d _).postBusError
  exact completes_of_issue hexec halone rfl rfl ⟨hsome, _, hwritten⟩

/-- A store the bus does not take. -/
theorem storeMeetsBusError_of_exec {i : Instr} {s : State} (hexec : exec i s = issue (lsuEffect [.busError]) s)
    (halone : s.alone) : StoreMeetsBusError i s :=
  completes_of_issue hexec halone rfl rfl (s.advance_onlyAdvances _).postBusError

/-- A failed store, whether or not its bytes land. -/
theorem completes_failedStore {i : Instr} {s : State} {w : Width} {pa v : Word}
    (hexec : exec i s = issue (lsuEffect (s.memStoreWrites w pa v)) s) (halone : s.alone)
    (hp : inPeripheralBlock s.cfg pa = false) (he : busWriteError s.cfg pa = true) :
    Completes i s (fun t => t.dcError.isSome = true
      ∧ (∀ a : Nat, (∀ k, k < w.bytes → a ≠ byteAddr pa k) → t.mem.read a = s.mem.read a)
      ∧ OnlyAdvances s { t with dcError := s.dcError, mem := s.mem }) := by
  rcases State.memStoreWrites_error v hp he with hwrites | hwrites
  · rw [hwrites] at hexec
    obtain ⟨hsome, honly⟩ := (s.advance_onlyAdvances [lsuEffect [.busError]]).postBusError
    refine completes_of_issue hexec halone rfl rfl ⟨hsome, fun a _ => honly.memory a, ?_⟩
    exact { honly with memory := fun _ => rfl, system := { honly.system with } }
  · rw [hwrites] at hexec
    have honly := s.advance_onlyAdvances [lsuEffect [.mem pa w v, .busError]]
    obtain ⟨hsome, hmem, hkeep⟩ := honly.postBusError_mem (s.mem.store s.cfg.bigEndian pa w v)
    exact completes_of_issue hexec halone rfl rfl
      ⟨hsome, fun a ha => (congrArg (·.read a) hmem).trans (Memory.read_store_other _ _ _ _ _ ha), hkeep⟩

/-! ### The operations -/

/-- The normal loads. -/
theorem exec_load {op : RegNum → RegNum → BitVec 9 → Instr} {w : Width}
    (h : (op, w) ∈ [(Instr.ldw, Width.word), (.ldh, .half), (.ldhu, .half), (.ldb, .byte), (.ldbu, .byte)]) :
    ∃ f, ∀ d s1 i s, exec (op d s1 i) s = issue (s.loadBy w f d (s.gpr s1 + s.imm i)) s := by
  simp only [List.mem_cons, Prod.mk.injEq, List.not_mem_nil, or_false] at h
  rcases h with ⟨rfl, rfl⟩ | ⟨rfl, rfl⟩ | ⟨rfl, rfl⟩ | ⟨rfl, rfl⟩ | ⟨rfl, rfl⟩
  · exact ⟨_, exec_ldw⟩
  · exact ⟨_, exec_ldh⟩
  · exact ⟨_, exec_ldhu⟩
  · exact ⟨_, exec_ldb⟩
  · exact ⟨_, exec_ldbu⟩

/-- The dismissible loads. -/
theorem exec_loadDismissible {op : RegNum → RegNum → BitVec 9 → Instr} {w : Width}
    (h : (op, w) ∈ [(Instr.ldwD, Width.word), (.ldhD, .half), (.ldhuD, .half), (.ldbD, .byte), (.ldbuD, .byte)]) :
    ∃ f, ∀ d s1 i s, exec (op d s1 i) s = issue (s.dismissibleBy w f d s1 i) s := by
  simp only [List.mem_cons, Prod.mk.injEq, List.not_mem_nil, or_false] at h
  rcases h with ⟨rfl, rfl⟩ | ⟨rfl, rfl⟩ | ⟨rfl, rfl⟩ | ⟨rfl, rfl⟩ | ⟨rfl, rfl⟩
  · exact ⟨_, exec_ldwD⟩
  · exact ⟨_, exec_ldhD⟩
  · exact ⟨_, exec_ldhuD⟩
  · exact ⟨_, exec_ldbD⟩
  · exact ⟨_, exec_ldbuD⟩

/-- The stores. -/
theorem exec_store {op : RegNum → BitVec 9 → RegNum → Instr} {w : Width}
    (h : (op, w) ∈ [(Instr.stw, Width.word), (.sth, .half), (.stb, .byte)]) :
    ∀ s1 i s2 s, exec (op s1 i s2) s = issue (s.storeBy w (s.gpr s1 + s.imm i) (s.gpr s2)) s := by
  simp only [List.mem_cons, Prod.mk.injEq, List.not_mem_nil, or_false] at h
  rcases h with ⟨rfl, rfl⟩ | ⟨rfl, rfl⟩ | ⟨rfl, rfl⟩
  · exact exec_stw
  · exact exec_sth
  · exact exec_stb

section Operations

variable {s : State} {d s1 : RegNum} {i : BitVec 9} {pa : Word} {w : Width}

/-- A normal load whose checks pass. -/
theorem exec_load_memory {op : RegNum → RegNum → BitVec 9 → Instr}
    (hop : (op, w) ∈ [(Instr.ldw, Width.word), (.ldh, .half), (.ldhu, .half), (.ldb, .byte), (.ldbu, .byte)])
    (hb : s.dbreakHit (s.gpr s1 + s.imm i) = false) (hc : isCRegSpace (s.gpr s1 + s.imm i) = false)
    (hm : w.misaligned (s.gpr s1 + s.imm i) = false) (h : s.leadsTo (s.gpr s1 + s.imm i) pa 1) :
    ∃ f, exec (op d s1 i) s = issue (lsuEffect (s.memLoadWrites w f d pa)) s := by
  obtain ⟨f, hexec⟩ := exec_load hop
  obtain ⟨-, -, rfl⟩ := h.single
  exact ⟨f, (hexec d s1 i s).trans (congrArg (issue · s) (State.accessEffect_memory hb hc hm h))⟩

/-- A dismissible load whose checks pass where the SCU allows the address. -/
theorem exec_loadDismissible_memory {op : RegNum → RegNum → BitVec 9 → Instr}
    (hop : (op, w) ∈ [(Instr.ldwD, Width.word), (.ldhD, .half), (.ldhuD, .half), (.ldbD, .byte), (.ldbuD, .byte)])
    (hb : s.dbreakHit (s.gpr s1 + s.imm i) = false) (hc : isCRegSpace (s.gpr s1 + s.imm i) = false)
    (hm : w.misaligned (s.gpr s1 + s.imm i) = false) (h : s.leadsTo (s.gpr s1 + s.imm i) pa 1)
    (hscu : s.scuHit pa = true) : ∃ f, exec (op d s1 i) s = issue (lsuEffect (s.memLoadWrites w f d pa)) s := by
  obtain ⟨f, hexec⟩ := exec_loadDismissible hop
  exact ⟨f, (hexec d s1 i s).trans (congrArg (issue · s) (State.loadDismissibleEffect_reads f d hb hc hm h hscu))⟩

/-- A store whose checks pass. -/
theorem exec_store_memory {op : RegNum → BitVec 9 → RegNum → Instr}
    (hop : (op, w) ∈ [(Instr.stw, Width.word), (.sth, .half), (.stb, .byte)])
    (hb : s.dbreakHit (s.gpr s1 + s.imm i) = false) (hc : isCRegSpace (s.gpr s1 + s.imm i) = false)
    (hm : w.misaligned (s.gpr s1 + s.imm i) = false) (h : s.leadsTo (s.gpr s1 + s.imm i) pa 2) :
    exec (op s1 i d) s = issue (lsuEffect (s.memStoreWrites w pa (s.gpr d))) s :=
  (exec_store hop s1 i d s).trans (congrArg (issue · s) (State.storeBy_memory hb hc hm h _))

end Operations

theorem State.memLoadWrites_periph {s : State} {pa : Word} {r : PeriphReg} (d : RegNum)
    (hp : inPeripheralBlock s.cfg pa = true) (hr : periphAt s.cfg pa = some r) :
    s.memLoadWrites .word extendWord d pa = [.gpr d (s.periphValue r)] := by
  rw [State.memLoadWrites, State.busRead_periph hp hr]
  rfl

/-- Where the registers stand (10 R81 to R85). -/
theorem periphMap {p : Params} (hwf : p.wf = true) :
    (∀ n : Fin 32, periphAt p (p.dsuBase + BitVec.ofNat 32 (8 * n.val)) = some (.dsr n))
    ∧ (∀ n : Fin 256, periphAt p (p.peripheralBase + 0x4000#32 + BitVec.ofNat 32 (4 * n.val)) = some (.rom n))
    ∧ (∀ k : Fin 2, ∀ x ∈ [(0x000, PeriphReg.intPending k), (0x010, .intMask k), (0x020, .intTest k),
        (0x030, .intClr k), (0x040, .intSet k), (0x108, .intMaskClr k), (0x118, .intMaskSet k)],
        periphAt p (p.intcrBase + BitVec.ofNat 32 (x.1 + 8 * k.val)) = some x.2)
    ∧ (∀ i : Fin 3, ∀ x ∈ [(0x200, PeriphReg.timeConst i), (0x208, .timeCount i), (0x210, .timeControl i)],
        periphAt p (p.intcrBase + BitVec.ofNat 32 (x.1 + 0x18 * i.val)) = some x.2)
    ∧ periphAt p (p.intcrBase + 0x248#32) = some .timeDivide := by
  have hintcr {o : Nat} {r : PeriphReg} (h : intcrTable.lookup o = some r) :
      periphAt p (p.intcrBase + BitVec.ofNat 32 o) = some r :=
    (periphAt_intcr hwf (intcrTable_offset h).1).trans h
  exact ⟨periphAt_dsr hwf, periphAt_rom hwf, fun k x hx => hintcr (intcrTable_interrupts k x hx),
    fun i x hx => hintcr (intcrTable_timers i x hx), hintcr (o := 0x248) (by decide)⟩

/-- A part-word load is one of the loads, and not of a word. -/
theorem partLoad_mem {op word h1 h2 b1 b2 : RegNum → RegNum → BitVec 9 → Instr} {w : Width}
    (h : (op, w) ∈ [(h1, Width.half), (h2, .half), (b1, .byte), (b2, .byte)]) :
    (op, w) ∈ [(word, Width.word), (h1, .half), (h2, .half), (b1, .byte), (b2, .byte)] ∧ w ≠ .word := by
  refine ⟨List.mem_cons_of_mem _ h, ?_⟩
  simp only [List.mem_cons, Prod.mk.injEq, List.not_mem_nil, or_false] at h
  rcases h with ⟨-, rfl⟩ | ⟨-, rfl⟩ | ⟨-, rfl⟩ | ⟨-, rfl⟩
  all_goals decide

theorem partStore_mem {op word half byte : RegNum → BitVec 9 → RegNum → Instr} {w : Width}
    (h : (op, w) ∈ [(half, Width.half), (byte, .byte)]) :
    (op, w) ∈ [(word, Width.word), (half, .half), (byte, .byte)] ∧ w ≠ .word := by
  refine ⟨List.mem_cons_of_mem _ h, ?_⟩
  simp only [List.mem_cons, Prod.mk.injEq, List.not_mem_nil, or_false] at h
  rcases h with ⟨-, rfl⟩ | ⟨-, rfl⟩
  all_goals decide

/-- Settles O51. -/
theorem peripheralLoadsAndBusErrors : Obligations.PeripheralLoadsAndBusErrors := by
  refine ⟨fun s d s1 i pa r halone hb hc hm h hp hr => ⟨?_, fun hscu => ?_⟩, fun p hwf => periphMap hwf,
    fun s k i => ?_, fun s d s1 i pa halone hb hc hp => ⟨fun op w hop hm h => ?_, fun op w hop hm h hscu => ?_,
      fun op w hop hm h => ?_, fun hr hm => ⟨fun h => ⟨?_, fun hscu => ?_⟩, fun h => ?_⟩, fun n hr hm h => ?_⟩,
    fun s d s1 i pa halone => ⟨fun op w hop h he => ?_, fun op w hop h hscu he => ?_, fun op w hop h he => ?_⟩⟩
  · refine completes_writesGpr (kind := .loadStore) ((exec_ldw d s1 i s).trans (congrArg (issue · s) ?_)) halone
    obtain ⟨-, -, rfl⟩ := h.single
    exact (State.accessEffect_memory hb hc hm h).trans (congrArg lsuEffect (State.memLoadWrites_periph d hp hr))
  · refine completes_writesGpr (kind := .loadStore) ((exec_ldwD d s1 i s).trans (congrArg (issue · s) ?_)) halone
    exact (State.loadDismissibleEffect_reads extendWord d hb hc hm h hscu).trans
      (congrArg lsuEffect (State.memLoadWrites_periph d hp hr))
  · exact ⟨rfl, rfl, rfl, rfl, rfl, rfl, fun n => BitVec.getLsbD_or .., fun n hn => s.intPending_low_getLsbD hn,
      s.intPending_timer_getLsbD i, rfl, rfl, Timer.controlValue_toNat _, rfl, rfl, debugRegisterValues s⟩
  · obtain ⟨hmem, hw⟩ := partLoad_mem (word := .ldw) hop
    obtain ⟨f, hexec⟩ := exec_load_memory hmem hb hc hm h
    exact loadMeetsBusError_of_exec hexec halone (State.busRead_part hp hw)
  · obtain ⟨hmem, hw⟩ := partLoad_mem (word := .ldwD) hop
    obtain ⟨f, hexec⟩ := exec_loadDismissible_memory hmem hb hc hm h hscu
    exact loadMeetsBusError_of_exec hexec halone (State.busRead_part hp hw)
  · obtain ⟨hmem, hw⟩ := partStore_mem (word := .stw) hop
    have hexec := exec_store_memory (d := d) hmem hb hc hm h
    rw [State.memStoreWrites_part _ hp hw] at hexec
    exact storeMeetsBusError_of_exec hexec halone
  · obtain ⟨f, hexec⟩ := exec_load_memory (op := .ldw) (.head _) hb hc hm h
    exact loadMeetsBusError_of_exec hexec halone (State.busRead_hole hp hr)
  · obtain ⟨f, hexec⟩ := exec_loadDismissible_memory (op := .ldwD) (.head _) hb hc hm h hscu
    exact loadMeetsBusError_of_exec hexec halone (State.busRead_hole hp hr)
  · have hexec := exec_store_memory (op := .stw) (d := d) (.head _) hb hc hm h
    rw [State.memStoreWrites_hole _ hp hr] at hexec
    exact storeMeetsBusError_of_exec hexec halone
  · exact completes_stw_periph halone hb hc hm h hp hr fun u hu => hu
  · obtain ⟨f, hexec⟩ := exec_load_memory hop h.noBreak h.notCreg h.aligned h.leads
    exact loadMeetsBusError_of_exec hexec halone (State.busRead_error h.notPeripheral he)
  · obtain ⟨f, hexec⟩ := exec_loadDismissible_memory hop h.noBreak h.notCreg h.aligned h.leads hscu
    exact loadMeetsBusError_of_exec hexec halone (State.busRead_error h.notPeripheral he)
  · have hexec := exec_store_memory (d := d) hop h.noBreak h.notCreg h.aligned h.leads
    exact completes_failedStore hexec halone h.notPeripheral he

end Sys2Proof.Machine
end
